-- ==== Sys2Proof/Word.lean ====
section
/-! DEFINITION. The characters of the link and the numberings of the bank: tubes, zones, channels, lines, codes,
slots, interlock groups and thermocouple channels (manual 00_scope.md "Numbering", R91, R161). -/

namespace Sys2Proof

/-- One character of the serial link: 8 data bits (R172). -/
abbrev Byte := BitVec 8

/-- The tubes 1..4, counted here from 0. -/
abbrev Tube := Fin 4

/-- The zones LOAD, CENTER and SOURCE of a tube (1..3 in the manual), counted here from 0. -/
abbrev Zone := Fin 3

/-- The gas channels 1..6 of a tube, counted here from 0. -/
abbrev Channel := Fin 6

/-- The supply lines 0..7. -/
abbrev Line := Fin 8

/-- The gas codes 0..15. -/
abbrev GasCode := Fin 16

/-- The step indexes 0..63. -/
abbrev Slot := Fin 64

/-- The ten interlock groups in the table order of R161: bank groups 0 and 1, then groups 2 and 3 of each tube. -/
abbrev Group := Fin 10

/-- The inputs 0..7 of an interlock group. -/
abbrev Input := Fin 8

/-- The thermocouple channels 0..24; channel 0 is the reference junction (R91). -/
abbrev TcChannel := Fin 25

/-- A flow return as it reads at its input: the proportion `part / whole` of the input's full scale (R122, 00_scope.md
"Physical summary"). A `part` below 0 or above `whole` is a return outside the input's range. -/
structure FlowReturn where
  part : Int
  whole : Nat
  deriving DecidableEq, Repr

end Sys2Proof
end

