-- ==== Sys2Proof/Syntax.lean ====
section
/-! DEFINITION. The commands of the FB-412: one constructor per row of spec/opcode_table.json.

A REQUEST command is the completion on the link of a good frame of its kind: it carries the frame's tag and its
whole payload, laid out as R188 states, so that every check of R175 (length, tube, state) is made by the model.
Every other command is an event at the link, at the timebase, at an input or at a drive. -/

namespace Sys2Proof

/-- The commands, in the table's order. -/
inductive Instr where
  /-- POWER_UP: supply is applied (R186). -/
  | powerUp
  /-- LOAD_STEPS (R6). -/
  | loadSteps (tag : Byte) (payload : List Byte)
  /-- CLEAR_STEPS (R8). -/
  | clearSteps (tag : Byte) (payload : List Byte)
  /-- READ_STEPS (R9). -/
  | readSteps (tag : Byte) (payload : List Byte)
  /-- START_RUN (R11, R12). -/
  | startRun (tag : Byte) (payload : List Byte)
  /-- ABORT_RUN (R22). -/
  | abortRun (tag : Byte) (payload : List Byte)
  /-- RESET_TUBE (R26). -/
  | resetTube (tag : Byte) (payload : List Byte)
  /-- HOLD (R41). -/
  | hold (tag : Byte) (payload : List Byte)
  /-- RELEASE (R42). -/
  | release (tag : Byte) (payload : List Byte)
  /-- SET_IDLE_TEMPERATURE (R58). -/
  | setIdleTemperature (tag : Byte) (payload : List Byte)
  /-- CONFIGURE_ZONES (R74). -/
  | configureZones (tag : Byte) (payload : List Byte)
  /-- SET_POWER_LIMIT (R86). -/
  | setPowerLimit (tag : Byte) (payload : List Byte)
  /-- READ_READINGS (R101). -/
  | readReadings (tag : Byte) (payload : List Byte)
  /-- CONFIGURE_CHANNELS (R107). -/
  | configureChannels (tag : Byte) (payload : List Byte)
  /-- SET_GAS_MAP (R104). -/
  | setGasMap (tag : Byte) (payload : List Byte)
  /-- SET_SUPPLY_LIMIT (R118). -/
  | setSupplyLimit (tag : Byte) (payload : List Byte)
  /-- SET_GATE_LIMITS (R132). -/
  | setGateLimits (tag : Byte) (payload : List Byte)
  /-- CONFIGURE_RAIL (R141). -/
  | configureRail (tag : Byte) (payload : List Byte)
  /-- LOCATE_BOAT (R146). -/
  | locateBoat (tag : Byte) (payload : List Byte)
  /-- MOVE_BOAT (R148). -/
  | moveBoat (tag : Byte) (payload : List Byte)
  /-- CLEAR_MOTION_FAULT (R155). -/
  | clearMotionFault (tag : Byte) (payload : List Byte)
  /-- SET_SPEED_TABLE (R152). -/
  | setSpeedTable (tag : Byte) (payload : List Byte)
  /-- SET_ACTION_TABLE (R165). -/
  | setActionTable (tag : Byte) (payload : List Byte)
  /-- SET_REPORT_LEVEL (R179). -/
  | setReportLevel (tag : Byte) (payload : List Byte)
  /-- READ_BANK (R183). -/
  | readBank (tag : Byte) (payload : List Byte)
  /-- RESTART_BANK (R185). -/
  | restartBank (tag : Byte) (payload : List Byte)
  /-- READ_TUBE (R184). -/
  | readTube (tag : Byte) (payload : List Byte)
  /-- READ_INTERLOCKS (R170). -/
  | readInterlocks (tag : Byte) (payload : List Byte)
  /-- UNKNOWN_KIND: a good frame whose kind is no request kind (R175). -/
  | unknownKind (kind tag : Byte) (payload : List Byte)
  /-- CRC_ERROR: a complete frame whose CRC disagrees (R174). -/
  | crcError
  /-- INVALID_FRAME_LENGTH: the length character `n` is 0, 1 or 251..255 (R173). -/
  | invalidFrameLength (n : Byte)
  /-- RECEIVE_GAP: more than 20 ms without a character (R173). -/
  | receiveGap
  /-- FRAMING_ERROR: a character whose stop bit reads as 0 (R172). -/
  | framingError
  /-- TRANSMIT_COMPLETE: the last character of the frame being sent has gone (R177). -/
  | transmitComplete
  /-- RUN_ENGINE_EXPIRY: a control-period expiry of `tube` reaches its Run Engine (R17 to R20). -/
  | runEngineExpiry (tube : Tube)
  /-- RAMP_EXPIRY: a control-period expiry of `tube` reaches its Ramp Generator (R60 to R69). -/
  | rampExpiry (tube : Tube)
  /-- ZONE_LOOP_EXPIRY: a control-period expiry of `tube` reaches its three Zone Loops (R77 to R85). -/
  | zoneLoopExpiry (tube : Tube)
  /-- GAS_SAMPLE: the gas sample reaches `tube`'s Gas Channel Unit; `returns` gives the flow return of each channel as
  it reads, a proportion of full scale (R122). -/
  | gasSample (tube : Tube) (returns : Vector FlowReturn 6)
  /-- TC_CONVERSION: the conversion in progress completes; `none` is an open circuit at the input. `some x` is what
  the converter measures there, in cdeg: on channel 0 the temperature of the reference sensor, on channels 1..24 the junction
  voltage, given as the temperature of a junction that has it against a reference at 0 (R91, R94). -/
  | tcConversion (input : Option Int)
  /-- INTERLOCK_INPUT_CHANGE: the raw state of an input becomes `closed` (R162). -/
  | interlockInputChange (group : Group) (input : Input) (closed : Bool)
  /-- INTERLOCK_INPUT_TAKEN: the raw state of an input has stood for 50 ms (R162, R166). -/
  | interlockInputTaken (group : Group) (input : Input)
  /-- SEAL_SENSOR_CHANGE: the raw state of a tube's end-cap sensor becomes `closed` (R159). -/
  | sealSensorChange (tube : Tube) (closed : Bool)
  /-- SEAL_SENSOR_TAKEN: the raw state of a tube's end-cap sensor has stood for 50 ms (R159). -/
  | sealSensorTaken (tube : Tube)
  /-- PADDLE_STEP: the drive of `tube` issues one step (R143). -/
  | paddleStep (tube : Tube)
  /-- MARK_READ: the mark reader of `tube` gives the number `mark` (R147, R153). -/
  | markRead (tube : Tube) (mark : Nat)
  /-- CHARACTER_TAKEN: the receiver takes one character (R173). -/
  | characterTaken (c : Byte)
  /-- BANK_TICK: the bank clock advances by 1 (R182). -/
  | bankTick
  deriving DecidableEq, Repr

end Sys2Proof
end

