-- ==== Sys2Proof/Config.lean ====
section
/-! DEFINITION. The fixed numbers of the FB-412, each with the rule that gives it, and the two free values: how a flow
return that is no whole number of sccm is rounded, and what the converter makes of a junction voltage. -/

namespace Sys2Proof.Config

/-- Ticks of one second of a duration (00_scope.md, Quantities). -/
def ticksPerSecond : Nat := 1024

/-- The upper end of the 32-bit clocks and timers that stop instead of wrapping (1.5, R65, R68). -/
def clockMax : Nat := 4294967295

/-- Places of the reply queue (R175). -/
def replyPlaces : Nat := 4

/-- Places of the report queue (R180). -/
def reportPlaces : Nat := 64

/-- The fill at or below which a departure announces losses (R181). -/
def lostAnnounceFill : Nat := 62

/-- The upper end of the discard, CRC-error and lost counts (R174, R175, R180). -/
def countMax : Nat := 65535

/-- The longest payload of a frame (11.1). -/
def payloadMax : Nat := 248

/-- Full conduction of a heater output (R77). -/
def outputMax : Nat := 65535

/-- Upper end of the integral accumulator, 65535 × 65536 (R77). -/
def integralMax : Int := 4294901760

/-- The width of the band below an overtemperature limit (R81). -/
def overtempBand : Int := 1000

/-- The bad count at which a channel has failed (R93). -/
def badCountMax : Nat := 4

/-- Ticks of one gas sample (R122). -/
def sampleTicks : Nat := 256

/-- The settle timer's upper end (R123). -/
def settleMax : Nat := 10240

/-- The deviation timer's upper end (R123). -/
def deviationMax : Nat := 5120

/-- The oxidant-established timer's upper end (R131). -/
def oxidantMax : Nat := 10240

/-- Upper end of the step volume and of the purge credit (R125, R128). -/
def volumeMax : Nat := 281474976710655

/-- Gas samples of one minute: volumes are kept in 1/240 scc (R125). -/
def samplesPerMinute : Nat := 240

/-- Rail units between two marks (R143). -/
def markSpacing : Nat := 500

/-- Half the width of a mark's window (R143). -/
def markWindow : Nat := 20

/-- Marks a rail can have: mark 50 stands at 25000 (R143). -/
def markLast : Nat := 50

/-- Steps without a mark at which a locate fails (R147). -/
def locateLimit : Nat := 540

/-- The parts of a second the debounce times are counted in: 5 of them are one bank tick and 256 of them are 50 ms,
so that both are whole numbers (R162, R182). -/
def debouncePerTick : Nat := 5

/-- 50 ms in the unit of `debouncePerTick` (R159, R162). -/
def debounceFull : Nat := 256

/-- Is a flow return of `part / whole` rounded up on a channel of full scale `fullScale`, where its proportion of the full
scale is no whole number of sccm? A FREE VALUE: R122 gives the proportion and no rounding (notes/assumptions/13.md). -/
opaque flowRoundsUp (part : Int) (whole fullScale : Nat) : Bool

/-- The temperature, in cdeg above −8388607, that the converter forms on a channel from a junction voltage and a reference
value other than 0. A FREE VALUE: R94 names what it is formed from and no characteristic (notes/assumptions/14.md). Its type
keeps the temperature within what the three characters of a last result carry beside the mark for none (R187). -/
opaque compensation (channel : TcChannel) (voltage reference : Int) : Fin 16777215

/-- How deep publications of hold levels may nest within one event. Each publication made while another is being
handled follows a push, which raises the level of its tube, so at most 7 of each tube stand one inside another and
this bound is never met (notes/assumptions/3.md). -/
def publishDepth : Nat := 32

end Sys2Proof.Config
end

