-- ==== Sys2Proof/Machine/State.lean ====
section
/-! DEFINITION. The state of the FB-412, as plain data: every register, queue, timer, flag and table the manual gives
its fourteen blocks (00_scope.md "Blocks"; the state tables R27, R50, R73, R89, R90, R102, R126, R127, R140, R160, R171,
R186), and the queue of waiting commands of the model. Quantities are whole numbers in the manual's units. -/

namespace Sys2Proof.Machine

/-! ## The step list and the Run Engine (chapter 1) -/

/-- The thermal part of a step record (R1); offsets are of zones 1, 2 and 3. -/
structure ThermalPart where
  target : Int
  rate : Nat
  offsets : Option (Vector Int 3)
  band : Int
  lagLimit : Nat
  deriving DecidableEq, Repr

/-- The stability part of a step record (R1). -/
structure StabilityPart where
  band : Int
  time : Nat
  deriving DecidableEq, Repr

/-- One entry of a gas part, as presented: a channel number and a flow (R1). -/
structure GasEntry where
  channel : Nat
  flow : Nat
  deriving DecidableEq, Repr

/-- The motion part of a step record (R1). -/
structure MotionPart where
  target : Nat
  speed : Nat
  deriving DecidableEq, Repr

/-- The repeat part of a step record (R1). -/
structure RepeatPart where
  toIndex : Nat
  count : Nat
  deriving DecidableEq, Repr

/-- A step record: the fixed core and the six optional parts (R1). -/
structure StepRecord where
  duration : Nat
  maxTime : Nat
  thermal : Option ThermalPart
  stability : Option StabilityPart
  gas : Option (List GasEntry)
  purge : Option Nat
  motion : Option MotionPart
  repetition : Option RepeatPart
  final : Bool
  deriving DecidableEq, Repr

/-- A filled slot: its record and its loop counter, 0 for a record without a repeat part (R4, R9). -/
structure SlotContent where
  record : StepRecord
  counter : Nat
  deriving DecidableEq, Repr

/-- The run states (1.3). -/
inductive RunState where
  | unconfigured | idle | running | safe
  deriving DecidableEq, Repr

/-- The phases of a step (1.4). -/
inductive Phase where
  | none | waitGas | active
  deriving DecidableEq, Repr

/-- The outcomes of a run (R27). -/
inductive RunOutcome where
  | none | done | aborted | safed
  deriving DecidableEq, Repr

/-- The state of one Run Engine (R27). `activated` is the model's own: whether the current step has been ACTIVE since
its entry, which R15 and R16 tell apart. -/
structure RunEngine where
  state : RunState
  phase : Phase
  step : Option Slot
  stepClock : Nat
  maxClock : Nat
  highWater : Option Slot
  abortIndex : Option Slot
  abortPath : Bool
  outcome : RunOutcome
  stepTime : Bool
  hostAbort : Bool
  activated : Bool
  slots : Vector (Option SlotContent) 64
  deriving DecidableEq, Repr

/-! ## The Hold Unit (chapter 2) -/

/-- The hold sources, numbered 0..12 in this order (R29). -/
inductive Source where
  | host | rampLag | stepTime | gasFlow | gate | tc | overtemp | motion | ilk0 | ilk1 | ilk2 | ilk3 | hostAbort
  deriving DecidableEq, Repr

/-- A hold frame (R31). -/
structure Frame where
  level : Nat
  source : Source
  taken : BitVec 32
  step : Option Slot
  present : Bool
  deriving DecidableEq, Repr

/-- An entry of the pending set (R33). -/
structure PendingEntry where
  source : Source
  level : Nat
  made : BitVec 32
  present : Bool
  deriving DecidableEq, Repr

/-- A source record: the source's condition and the last level it asked (R30). -/
structure SourceRecord where
  present : Bool
  level : Nat
  deriving DecidableEq, Repr

/-- The state of one Hold Unit (R50). `stack` has its TOP frame first. `pending` and `level7` stand in order of source
number. `records` holds sources 1..12 at places 0..11 (HOST has no source record). `published` is the hold level as last
published to the responders (R48). -/
structure HoldUnit where
  stack : List Frame
  pending : List PendingEntry
  level7 : List Source
  records : Vector SourceRecord 12
  window : Bool
  published : Nat
  deriving DecidableEq, Repr

/-! ## The Ramp Generator (chapter 3) -/

/-- What started a ramp (R53). -/
inductive RampKind where
  | none | step | idle | safe
  deriving DecidableEq, Repr

/-- One zone of the ramp: accumulator and ramp start in 1/65536 cdeg, ramp target in cdeg, reached flag (R52, R53). -/
structure RampZone where
  accumulator : Int
  start : Int
  target : Int
  reached : Bool
  deriving DecidableEq, Repr

/-- The state of one Ramp Generator (R73). STABLE is read from `stabTimer` and the current step (`Bank.stable`). -/
structure Ramp where
  kind : RampKind
  inProgress : Bool
  rate : Nat
  band : Int
  lagLimit : Nat
  zones : Vector RampZone 3
  lagTimer : Nat
  lag : Bool
  stabTimer : Nat
  deriving DecidableEq, Repr

/-! ## Zone Loops and Power Share (chapter 4) -/

/-- A zone record of CONFIGURE ZONES (R74). -/
structure ZoneConfig where
  maxSetpoint : Int
  kp : Nat
  ki : Nat
  maxOutput : Nat
  rating : Nat
  overtempLimit : Int
  deriving DecidableEq, Repr

/-- What CONFIGURE ZONES gives a tube (R74). -/
structure ZonesConfig where
  period : Nat
  safeTemp : Int
  safeRate : Nat
  zones : Vector ZoneConfig 3
  deriving DecidableEq, Repr

/-- The state of one Zone Loop (R89): integral in 1/65536 count, output, delivered output and the flags. -/
structure ZoneLoop where
  integral : Nat
  output : Nat
  frozen : Bool
  forcedOff : Bool
  overtemp : Bool
  failed : Bool
  delivered : Nat
  deriving DecidableEq, Repr

/-- What the Power Share keeps for one tube (R90). -/
structure Share where
  demand : Nat
  grant : Nat
  limited : Bool
  deriving DecidableEq, Repr

/-! ## Gas (chapters 6 and 7) -/

/-- The gas classes (R103). -/
inductive GasClass where
  | inert | oxidant | flammable | reactive
  deriving DecidableEq, Repr

/-- An entry of the Gas Line Map; `none` is the line NONE (R103). -/
structure MapEntry where
  line : Option Line
  cls : GasClass
  deriving DecidableEq, Repr

/-- A channel record of CONFIGURE CHANNELS (R107). -/
structure ChannelConfig where
  code : GasCode
  fullScale : Nat
  tolerance : Nat
  purge : Bool
  deriving DecidableEq, Repr

/-- What CONFIGURE CHANNELS gives a tube (R107). -/
structure GasConfig where
  floor : Nat
  gateVolume : Nat
  channels : Vector ChannelConfig 6
  deriving DecidableEq, Repr

/-- The state of one gas channel (R126). -/
structure GasChannel where
  requested : Nat
  uncovered : Bool
  effective : Nat
  measured : Nat
  settle : Nat
  deviation : Nat
  deriving DecidableEq, Repr

/-- The state of one Gas Channel Unit (R126); the step volume is in 1/240 scc. -/
structure GasUnit where
  config : Option GasConfig
  channels : Vector GasChannel 6
  deviating : Bool
  levelAsked : Nat
  stepVolume : Nat
  deriving DecidableEq, Repr

/-- The state of one Purge and Gate Unit (R140); the credit is in 1/240 scc. `sealed` is also the seal of the Boat Drive's
own table (R160): the two change together (R159). -/
structure PurgeGate where
  sealed : Bool
  credit : Nat
  target : Option Nat
  purgeDone : Bool
  oxidantTimer : Nat
  oxidantSetpoint : Nat
  oxidantMeasured : Nat
  conditions : Vector Bool 6
  isOpen : Bool
  lost : Bool
  deriving DecidableEq, Repr

/-- The kinds of a gas request (R111). -/
inductive RequestKind where
  | step | renewed | cover
  deriving DecidableEq, Repr

/-- A waiting tube of the Supply Budget: its request's kind, flows and vector, and the lines in whose queues it stands
(R112, R115). -/
structure Waiter where
  tube : Tube
  kind : RequestKind
  flows : Vector Nat 6
  vector : Vector Nat 8
  lines : List Line
  deriving DecidableEq, Repr

/-- The state of the Supply Budget (R127): limits by line, allocations by tube and line, and the waiting tubes in the
bank-wide order of enqueueing, oldest first; the queue of a line is read from `waiters` (`Supply.queue`). `due` is the
model's own: whether the event in hand has called for a re-examination, which is made at its end; it is false between
commands (R116, notes/assumptions/47.md). -/
structure Supply where
  limits : Vector Nat 8
  alloc : Vector (Vector Nat 8) 4
  waiters : List Waiter
  due : Bool
  deriving DecidableEq, Repr

/-! ## The Boat Drive (chapter 8) -/

/-- The rail settings of CONFIGURE RAIL (R141). -/
structure Rail where
  length : Nat
  inPos : Nat
  doorZone : Nat
  doorSpeed : Nat
  locateSpeed : Nat
  deriving DecidableEq, Repr

/-- The paddle states (8.2). -/
inductive PaddleState where
  | unlocated | stopped | moving | stopping | fault
  deriving DecidableEq, Repr

/-- The kinds of a move order (R144). -/
inductive MoveKind where
  | host | step
  deriving DecidableEq, Repr

/-- A move order; `current` says whether its step is still the current step (R144). -/
structure MoveOrder where
  kind : MoveKind
  target : Nat
  speed : Nat
  step : Option Slot
  current : Bool
  deriving DecidableEq, Repr

/-- The stopping record (R149). -/
structure StoppingRecord where
  point : Nat
  kind : MoveKind
  step : Option Slot
  target : Nat
  deriving DecidableEq, Repr

/-- The travel from one rest to the next (R153), which the manual implies: its fixed direction, start and target, the
speed its order asks, the speed last evaluated without the door-zone speed (R151), and the marks read. -/
structure Travel where
  inward : Bool
  start : Nat
  target : Nat
  asked : Nat
  freeSpeed : Nat
  marksRead : List Nat
  deriving DecidableEq, Repr

/-- The state of one Boat Drive (R160). `locate` holds a LOCATE order's speed. `sensorRaw` is the pin, `sensor` the taken
sensor state, `sensorTime` the time since the pin changed, in the unit of `Config.debouncePerTick` (R159). `motionDone` is
the MOTION_DONE condition (R149), `motion` the MOTION condition (R154). The window is kept in the Hold Unit (R39, R158),
the seal in the Purge and Gate Unit. -/
structure Boat where
  rail : Option Rail
  paddle : PaddleState
  position : Option Nat
  order : Option MoveOrder
  locate : Option Nat
  stopping : Option StoppingRecord
  travel : Option Travel
  blocked : Bool
  unlocWaiting : Bool
  speed : Nat
  band : Nat
  locateTravel : Nat
  table : Vector Nat 16
  motion : Bool
  motionDone : Bool
  sensorRaw : Bool
  sensor : Bool
  sensorTime : Nat
  deriving DecidableEq, Repr

/-! ## Thermocouple Scanner and Interlock Unit (chapters 5 and 9) -/

/-- The class of a conversion (R93). -/
inductive ChannelStatus where
  | good | opened | range | refFault
  deriving DecidableEq, Repr

/-- A channel record (R93). -/
structure ChannelRecord where
  value : Int
  status : ChannelStatus
  bad : Nat
  last : Option Int
  deriving DecidableEq, Repr

/-- The state of the Thermocouple Scanner (R102): the records, the channel in conversion and each tube's TC condition. A
tube is configured for R99 when its run state is not UNCONFIGURED. -/
structure Scanner where
  records : Vector ChannelRecord 25
  position : TcChannel
  tc : Vector Bool 4
  deriving DecidableEq, Repr

/-- The state of one interlock group (R171): raw pattern (the pins), group byte (the taken states), level, and each
input's debounce time in the unit of `Config.debouncePerTick`. -/
structure InterlockGroup where
  raw : BitVec 8
  byte : BitVec 8
  level : Nat
  debounce : Vector Nat 8
  deriving DecidableEq, Repr

/-- The state of the Interlock Unit (R171); the first-interlock summaries are read from it (`Bank.summary`). -/
structure Interlock where
  groups : Vector InterlockGroup 10
  tables : Vector (Vector Nat 256) 10
  deriving DecidableEq, Repr

/-! ## The Link Controller (chapter 10) -/

/-- The report kinds (R191). -/
inductive ReportKind where
  | stepEntered | stepActive | stepDone | runDone | runAborted | safeEntered | holdTaken | holdPending | holdWithdrawn
  | holdReleased | level7Absorbed | gasWait | gasGranted | gateOpen | gateClosed | motionDone | boatLocated | motionFault
  | sealMade | sealOpened | tcBad | tcRecovered | interlockChange | targetClamped | powerLimited | reportsLost
  deriving DecidableEq, Repr

/-- A report record; tube `none` is the bank (R178). -/
structure Report where
  clock : BitVec 32
  tube : Option Tube
  kind : ReportKind
  level : Nat
  detail1 : Option Int
  detail2 : Option Int
  detail3 : Option Int
  deriving DecidableEq, Repr

/-- A reply: its kind, its tag and its payload, which begins with the status code (R176). -/
structure Reply where
  kind : Byte
  tag : Byte
  payload : List Byte
  deriving DecidableEq, Repr

/-- The receive framer (R173): `body n kept` expects n characters and has kept those listed; `check kept first` has the
whole body and, once taken, the first CRC character. -/
inductive Receiver where
  | hunt
  | length
  | body (n : Nat) (kept : List Byte)
  | check (kept : List Byte) (first : Option Byte)
  deriving DecidableEq, Repr

/-- The state of the Link Controller (R186). `sending` is the frame on the wire, all its characters, or none when the
transmitter is idle. Both queues have their oldest member first. -/
structure Link where
  receiver : Receiver
  replies : List Reply
  reports : List Report
  sending : Option (List Byte)
  reportLevel : Nat
  sequence : Byte
  discards : Nat
  crcErrors : Nat
  lost : Nat
  deriving DecidableEq, Repr

/-! ## The bank -/

/-- Everything the bank holds for one tube. `period` is the control period in force (R75, R76): none before the first
multiple of the P that CONFIGURE ZONES gave. -/
structure TubeState where
  run : RunEngine
  hold : HoldUnit
  ramp : Ramp
  zonesConfig : Option ZonesConfig
  period : Option Nat
  loops : Vector ZoneLoop 3
  share : Share
  gas : GasUnit
  gate : PurgeGate
  boat : Boat
  deriving DecidableEq, Repr

/-- The state of every block of the bank. `outbox` is the model's own: the reports created within the event in hand, in
creation order; it is empty between commands (R176, R178). -/
structure Bank where
  clock : BitVec 32
  tubes : Vector TubeState 4
  powerLimit : Nat
  scanner : Scanner
  gasMap : Vector MapEntry 16
  supply : Supply
  threshold : Int
  ratio : Nat
  interlock : Interlock
  link : Link
  outbox : List Report
  deriving DecidableEq, Repr

/-- The state of the machine: the bank, and the queue of commands that wait, the first in front. -/
structure State where
  bank : Bank
  pending : List Instr
  deriving DecidableEq, Repr

/-- The reasons a step can stop with a fault. There is none: the manual gives every command an effect in every state. -/
inductive Fault where
  deriving DecidableEq, Repr

/-- The reasons a step can have no meaning. -/
inductive Refusal where
  /-- Raised by `exec` alone, for a command whose meaning is not written yet; safe. No arm raises it. -/
  | notModelled (mnemonic : String)
  deriving DecidableEq, Repr

/-! ## Power-up (R27, R50, R73, R89, R90, R102, R126, R127, R140, R160, R171, R186) -/

/-- R27. -/
def RunEngine.reset : RunEngine where
  state := .unconfigured
  phase := .none
  step := none
  stepClock := 0
  maxClock := 0
  highWater := none
  abortIndex := none
  abortPath := false
  outcome := .none
  stepTime := false
  hostAbort := false
  activated := false
  slots := Vector.replicate 64 none

/-- R50. -/
def HoldUnit.reset : HoldUnit where
  stack := []
  pending := []
  level7 := []
  records := Vector.replicate 12 ⟨false, 0⟩
  window := false
  published := 0

/-- R73. -/
def Ramp.reset : Ramp where
  kind := .none
  inProgress := false
  rate := 0
  band := 0
  lagLimit := 0
  zones := Vector.replicate 3 ⟨0, 0, 0, true⟩
  lagTimer := 0
  lag := false
  stabTimer := 0

/-- R89. -/
def ZoneLoop.reset : ZoneLoop where
  integral := 0
  output := 0
  frozen := true
  forcedOff := false
  overtemp := false
  failed := false
  delivered := 0

/-- R126; the level asked is 3 while no channel is beyond its delay (R124). -/
def GasUnit.reset : GasUnit where
  config := none
  channels := Vector.replicate 6 ⟨0, false, 0, 0, 0, 0⟩
  deviating := false
  levelAsked := 3
  stepVolume := 0

/-- R140. -/
def PurgeGate.reset : PurgeGate where
  sealed := false
  credit := 0
  target := none
  purgeDone := false
  oxidantTimer := 0
  oxidantSetpoint := 0
  oxidantMeasured := 0
  conditions := Vector.replicate 6 false
  isOpen := false
  lost := false

/-- R160, with the end-cap sensor's pin given. DESIGN CHOICE (notes/assumptions/2.md): the sensor reads open until a
state of the pin has been taken. -/
def Boat.reset (sensorRaw : Bool) : Boat where
  rail := none
  paddle := .unlocated
  position := none
  order := none
  locate := none
  stopping := none
  travel := none
  blocked := false
  unlocWaiting := false
  speed := 0
  band := 15
  locateTravel := 0
  table := Vector.replicate 16 0
  motion := false
  motionDone := false
  sensorRaw := sensorRaw
  sensor := false
  sensorTime := 0

/-- One tube after power-up, with its end-cap sensor's pin given. -/
def TubeState.reset (sensorRaw : Bool) : TubeState where
  run := RunEngine.reset
  hold := HoldUnit.reset
  ramp := Ramp.reset
  zonesConfig := none
  period := none
  loops := Vector.replicate 3 ZoneLoop.reset
  share := ⟨0, 0, false⟩
  gas := GasUnit.reset
  gate := PurgeGate.reset
  boat := Boat.reset sensorRaw

/-- R102. -/
def Scanner.reset : Scanner where
  records := Vector.replicate 25 ⟨0, .opened, 0, none⟩
  position := 0
  tc := Vector.replicate 4 false

/-- One interlock group after power-up, with the pattern of its pins given (R162, R171). -/
def InterlockGroup.reset (raw : BitVec 8) : InterlockGroup where
  raw := raw
  byte := 0
  level := 0
  debounce := Vector.replicate 8 0

/-- R186. -/
def Link.reset : Link where
  receiver := .hunt
  replies := []
  reports := []
  sending := none
  reportLevel := 1
  sequence := 0
  discards := 0
  crcErrors := 0
  lost := 0

/-- The bank after power-up, with the end-cap sensor pins and the interlock pins as they stand. -/
def Bank.reset (sensors : Vector Bool 4) (raws : Vector (BitVec 8) 10) : Bank where
  clock := 0
  tubes := sensors.map TubeState.reset
  powerLimit := 0
  scanner := Scanner.reset
  gasMap := Vector.replicate 16 ⟨none, .inert⟩
  supply := ⟨Vector.replicate 8 0, Vector.replicate 4 (Vector.replicate 8 0), [], false⟩
  threshold := 0
  ratio := 0
  interlock := ⟨raws.map InterlockGroup.reset, Vector.replicate 10 (Vector.replicate 256 0)⟩
  link := Link.reset
  outbox := []

/-- The machine right after reset: the bank after power-up, no command waiting. DESIGN CHOICE (notes/assumptions/2.md):
every sensor and interlock pin reads open. -/
def State.reset : State where
  bank := Bank.reset (Vector.replicate 4 false) (Vector.replicate 10 0)
  pending := []

end Sys2Proof.Machine
end

