-- ==== Sys2Proof/Machine/Ops.lean ====
section
/-! DEFINITION. The named operations every block is written over: access to and update of one tube's blocks, the
arithmetic of 00_scope.md ("Arithmetic"), the numbers of names (R191), and the creation of a report (R178). -/

namespace Sys2Proof.Machine

/-! ## Arithmetic -/

/-- "Clamp" of 00_scope.md: a value below the range becomes its lower end, one above it its upper end. -/
def clamp (x lo hi : Int) : Int := if x < lo then lo else if hi < x then hi else x

/-- Addition that stops at an upper end instead of wrapping. -/
def satAdd (x y top : Nat) : Nat := min (x + y) top

/-- Does `x` lie in `lo..hi`, both ends included? -/
def within (x lo hi : Int) : Bool := decide (lo ≤ x) && decide (x ≤ hi)

/-- The difference of two quantities, taken without sign. -/
def distance (x y : Int) : Nat := (x - y).natAbs

/-! ## The blocks of one tube -/

def Bank.tube (b : Bank) (t : Tube) : TubeState := b.tubes[t]
def Bank.modTube (b : Bank) (t : Tube) (f : TubeState → TubeState) : Bank :=
  { b with tubes := b.tubes.set t (f (b.tube t)) }

def Bank.run (b : Bank) (t : Tube) : RunEngine := (b.tube t).run
def Bank.hold (b : Bank) (t : Tube) : HoldUnit := (b.tube t).hold
def Bank.ramp (b : Bank) (t : Tube) : Ramp := (b.tube t).ramp
def Bank.loops (b : Bank) (t : Tube) : Vector ZoneLoop 3 := (b.tube t).loops
def Bank.share (b : Bank) (t : Tube) : Share := (b.tube t).share
def Bank.gas (b : Bank) (t : Tube) : GasUnit := (b.tube t).gas
def Bank.gate (b : Bank) (t : Tube) : PurgeGate := (b.tube t).gate
def Bank.boat (b : Bank) (t : Tube) : Boat := (b.tube t).boat

def Bank.modRun (b : Bank) (t : Tube) (f : RunEngine → RunEngine) : Bank :=
  b.modTube t fun x => { x with run := f x.run }
def Bank.modHold (b : Bank) (t : Tube) (f : HoldUnit → HoldUnit) : Bank :=
  b.modTube t fun x => { x with hold := f x.hold }
def Bank.modRamp (b : Bank) (t : Tube) (f : Ramp → Ramp) : Bank :=
  b.modTube t fun x => { x with ramp := f x.ramp }
def Bank.modLoops (b : Bank) (t : Tube) (f : Vector ZoneLoop 3 → Vector ZoneLoop 3) : Bank :=
  b.modTube t fun x => { x with loops := f x.loops }
def Bank.modShare (b : Bank) (t : Tube) (f : Share → Share) : Bank :=
  b.modTube t fun x => { x with share := f x.share }
def Bank.modGas (b : Bank) (t : Tube) (f : GasUnit → GasUnit) : Bank :=
  b.modTube t fun x => { x with gas := f x.gas }
def Bank.modGate (b : Bank) (t : Tube) (f : PurgeGate → PurgeGate) : Bank :=
  b.modTube t fun x => { x with gate := f x.gate }
def Bank.modBoat (b : Bank) (t : Tube) (f : Boat → Boat) : Bank :=
  b.modTube t fun x => { x with boat := f x.boat }

/-- The tubes 1, 2, 3 and 4 in that order. -/
def allTubes : List Tube := [0, 1, 2, 3]

/-- Does `f` for tubes 1 to 4 in that order. -/
def Bank.eachTube (b : Bank) (f : Tube → Bank → Bank) : Bank := allTubes.foldl (fun b t => f t b) b

/-- The zones, channels and lines in order. -/
def allZones : List Zone := [0, 1, 2]
def allChannels : List Channel := [0, 1, 2, 3, 4, 5]
def allLines : List Line := [0, 1, 2, 3, 4, 5, 6, 7]

/-- The sum of `f` over the three zones, the six channels, the four tubes. -/
def sumZones (f : Zone → Nat) : Nat := (allZones.map f).sum
def sumChannels (f : Channel → Nat) : Nat := (allChannels.map f).sum
def sumTubes (f : Tube → Nat) : Nat := (allTubes.map f).sum

/-! ## The current step -/

/-- The record in slot `i` of tube `t`, if the slot is filled (R4). -/
def Bank.record (b : Bank) (t : Tube) (i : Slot) : Option StepRecord := (b.run t).slots[i].map (·.record)

/-- The record of the tube's current step. -/
def Bank.currentRecord (b : Bank) (t : Tube) : Option StepRecord := (b.run t).step.bind (b.record t)

/-- STABLE: a run is in progress, the current step has a stability part, and the stabilization timer has come to its time
(R69, notes/assumptions/45.md). -/
def Bank.stable (b : Bank) (t : Tube) : Bool :=
  decide ((b.run t).phase ≠ .none)
    && ((b.currentRecord t).bind (·.stability)).any fun q =>
      decide (q.time * Config.ticksPerSecond ≤ (b.ramp t).stabTimer)

/-- The configuration marks of R10: which of CONFIGURE ZONES, CHANNELS and RAIL have been accepted. -/
def TubeState.marks (x : TubeState) : Bool × Bool × Bool :=
  (x.zonesConfig.isSome, x.gas.config.isSome, x.boat.rail.isSome)

/-- The length of a control period that expires for tube `t`: the period in force, or the stored P where none has been
in force yet; none while CONFIGURE ZONES has not been accepted (R75, R76). -/
def Bank.expiringPeriod (b : Bank) (t : Tube) : Option Nat :=
  (b.tube t).zonesConfig.map fun c => (b.tube t).period.getD c.period

/-! ## Thermocouple readings -/

/-- The channel of tube `t`, zone `z`: `k` is 0 for the control and 1 for the overtemperature channel (R91). -/
def tcChannel (t : Tube) (z : Zone) (k : Fin 2) : TcChannel :=
  ⟨1 + t.val * 6 + z.val * 2 + k.val, by omega⟩

/-- The control reading of a zone: the record of its control channel as it stands (R98). -/
def Bank.control (b : Bank) (t : Tube) (z : Zone) : ChannelRecord := b.scanner.records[tcChannel t z 0]

/-- The record of a zone's overtemperature channel as it stands. -/
def Bank.overtemp (b : Bank) (t : Tube) (z : Zone) : ChannelRecord := b.scanner.records[tcChannel t z 1]

/-- A reading has status GOOD. -/
def ChannelRecord.isGood (r : ChannelRecord) : Bool := r.status = .good

/-! ## The numbers that stand for names (R191) -/

def RunState.code : RunState → Nat
  | .unconfigured => 0 | .idle => 1 | .running => 2 | .safe => 3
def Phase.code : Phase → Nat
  | .none => 0 | .waitGas => 1 | .active => 2
def RunOutcome.code : RunOutcome → Nat
  | .none => 0 | .done => 1 | .aborted => 2 | .safed => 3
def ChannelStatus.code : ChannelStatus → Nat
  | .good => 0 | .opened => 1 | .range => 2 | .refFault => 3
def PaddleState.code : PaddleState → Nat
  | .unlocated => 0 | .stopped => 1 | .moving => 2 | .stopping => 3 | .fault => 4
/-- Order kinds: none 0, LOCATE 1, HOST 2, STEP 3. -/
def MoveKind.code : MoveKind → Nat
  | .host => 2 | .step => 3
def RampKind.code : RampKind → Nat
  | .none => 0 | .step => 1 | .idle => 2 | .safe => 3
def GasClass.code : GasClass → Nat
  | .inert => 0 | .oxidant => 1 | .flammable => 2 | .reactive => 3
def RequestKind.code : RequestKind → Nat
  | .step => 0 | .renewed => 1 | .cover => 2

/-- Hold sources by their numbers of R29. -/
def Source.code : Source → Nat
  | .host => 0 | .rampLag => 1 | .stepTime => 2 | .gasFlow => 3 | .gate => 4 | .tc => 5 | .overtemp => 6 | .motion => 7
  | .ilk0 => 8 | .ilk1 => 9 | .ilk2 => 10 | .ilk3 => 11 | .hostAbort => 12

/-- Every source in order of its number. -/
def allSources : List Source :=
  [.host, .rampLag, .stepTime, .gasFlow, .gate, .tc, .overtemp, .motion, .ilk0, .ilk1, .ilk2, .ilk3, .hostAbort]

/-- Why a frame or an entry left (hold cause). -/
inductive HoldCause where
  | cleared | release | abort | reset
  deriving DecidableEq, Repr
def HoldCause.code : HoldCause → Nat
  | .cleared => 0 | .release => 1 | .abort => 2 | .reset => 3

/-- Why the gate closed. -/
inductive GateCause where
  | condition | sealOpened | hold
  deriving DecidableEq, Repr
def GateCause.code : GateCause → Nat
  | .condition => 0 | .sealOpened => 1 | .hold => 2

/-- Why the paddle entered FAULT. -/
inductive MotionCause where
  | mismatch | miss | locateMiss
  deriving DecidableEq, Repr
def MotionCause.code : MotionCause → Nat
  | .mismatch => 0 | .miss => 1 | .locateMiss => 2

/-- The report codes. -/
def ReportKind.code : ReportKind → Nat
  | .stepEntered => 0x01 | .stepActive => 0x02 | .stepDone => 0x03 | .runDone => 0x04 | .runAborted => 0x05
  | .safeEntered => 0x06 | .holdTaken => 0x07 | .holdPending => 0x08 | .holdWithdrawn => 0x09 | .holdReleased => 0x0A
  | .level7Absorbed => 0x0B | .gasWait => 0x0C | .gasGranted => 0x0E | .gateOpen => 0x0F | .gateClosed => 0x10
  | .motionDone => 0x11 | .boatLocated => 0x12 | .motionFault => 0x13 | .sealMade => 0x14 | .sealOpened => 0x15
  | .tcBad => 0x16 | .tcRecovered => 0x17 | .interlockChange => 0x18 | .targetClamped => 0x19 | .powerLimited => 0x1A
  | .reportsLost => 0x1B

/-- The status codes of replies. -/
inductive Status where
  | ok | partially | unknownKind | badLength | badField | badTube | badState | inUse | notTop | conditionPresent
  | unlocated | motionBusy
  deriving DecidableEq, Repr
def Status.code : Status → Nat
  | .ok => 0x00 | .partially => 0x01 | .unknownKind => 0x10 | .badLength => 0x11 | .badField => 0x12 | .badTube => 0x13
  | .badState => 0x14 | .inUse => 0x15 | .notTop => 0x16 | .conditionPresent => 0x17 | .unlocated => 0x18
  | .motionBusy => 0x19

/-! ## Creating a report -/

/-- The level of each report kind; HOLD_TAKEN has the level of the hold it announces (R178). -/
def ReportKind.level (held : Nat) : ReportKind → Nat
  | .stepEntered | .stepActive => 1
  | .stepDone | .holdPending | .holdWithdrawn | .gasWait | .gasGranted | .motionDone | .boatLocated | .powerLimited => 2
  | .runDone | .holdReleased | .gateOpen | .gateClosed | .sealMade | .sealOpened | .tcRecovered | .interlockChange
  | .targetClamped => 3
  | .runAborted | .tcBad => 4
  | .motionFault => 5
  | .holdTaken => held
  | .safeEntered | .level7Absorbed | .reportsLost => 7

/-- A step index as a report detail, absent for none. -/
def slotDetail (i : Option Slot) : Option Int := i.map fun i => (i.val : Int)

/-- A flag as a report detail (R192). -/
def flagDetail (f : Bool) : Int := if f then 1 else 0

/-- A block creates a report: it is stamped with the bank clock and joins the reports of the event in hand (R178). The
details not given are absent; `held` is the level a HOLD_TAKEN announces. -/
def Bank.report (b : Bank) (t : Option Tube) (k : ReportKind) (d1 d2 d3 : Option Int := none) (held : Nat := 0) : Bank :=
  { b with outbox := b.outbox ++ [⟨b.clock, t, k, k.level held, d1, d2, d3⟩] }

end Sys2Proof.Machine
end

