-- ==== Sys2Proof/Machine/HoldUnit.lean ====
section
/-! DEFINITION. The Hold Unit (chapter 2): the stack, the pending set, the level-7 condition set, and the decision of a
request. A change of the hold level is published through a parameter `pub`, which Machine/Publish.lean ties to the five
responders. -/

namespace Sys2Proof.Machine

/-- How a Hold Unit publishes its tube's hold level (R48). -/
abbrev Publisher := Tube → Bank → Bank

/-! ## Reading a Hold Unit -/

/-- The hold level: the level of the top frame, 0 on an empty stack (R28). -/
def HoldUnit.level (h : HoldUnit) : Nat :=
  match h.stack with
  | [] => 0
  | f :: _ => f.level

/-- The threshold (R32). -/
def HoldUnit.threshold (h : HoldUnit) : Nat :=
  match h.stack with
  | [] => 1
  | f :: _ => if 7 ≤ f.level then 7 else f.level + 1

/-- The place of a source's record; HOST has none (R30). -/
def Source.recordIx : Source → Option (Fin 12)
  | .host => none
  | .rampLag => some 0 | .stepTime => some 1 | .gasFlow => some 2 | .gate => some 3 | .tc => some 4 | .overtemp => some 5
  | .motion => some 6 | .ilk0 => some 7 | .ilk1 => some 8 | .ilk2 => some 9 | .ilk3 => some 10 | .hostAbort => some 11

/-- The source record of `s`; for HOST the record of a source that never asked. -/
def HoldUnit.sourceRecord (h : HoldUnit) (s : Source) : SourceRecord :=
  match s.recordIx with
  | none => ⟨false, 0⟩
  | some i => h.records[i]

/-- The pending entry of `s`, if there is one (R33). -/
def HoldUnit.entry (h : HoldUnit) (s : Source) : Option PendingEntry := h.pending.find? fun e => e.source = s

/-- Does `s` own a frame at level `L`? -/
def HoldUnit.ownsAt (h : HoldUnit) (s : Source) (L : Nat) : Bool := h.stack.any fun f => f.source = s && f.level = L

/-- The hold level as last published to the responders (R48). -/
def Bank.level (b : Bank) (t : Tube) : Nat := (b.hold t).published

/-- The hold stack of the tube is empty. -/
def Bank.unheld (b : Bank) (t : Tube) : Bool := (b.hold t).stack.isEmpty

/-! ## Changing a Hold Unit -/

/-- Every frame of `s`, and its pending entry, is marked present or cleared (R30). -/
def HoldUnit.mark (h : HoldUnit) (s : Source) (present : Bool) : HoldUnit :=
  { h with
    stack := h.stack.map fun f => if f.source = s then { f with present := present } else f
    pending := h.pending.map fun e => if e.source = s then { e with present := present } else e }

/-- A source record is written; HOST has none (R30). -/
def HoldUnit.setRecord (h : HoldUnit) (s : Source) (r : SourceRecord) : HoldUnit :=
  match s.recordIx with
  | none => h
  | some i => { h with records := h.records.set i r }

/-- `s` joins a set of sources, unless it is a member (R46). The set is kept in order of source number, the order in which
READ TUBE sends it (DESIGN CHOICE, notes/assumptions/57.md). -/
def insertSource (s : Source) : List Source → List Source
  | [] => [s]
  | x :: l => if x = s then x :: l else if s.code < x.code then s :: x :: l else x :: insertSource s l

/-- The entry of a source is put into the pending set, in place of the one it has, in order of source number (R33). -/
def insertEntry (e : PendingEntry) : List PendingEntry → List PendingEntry
  | [] => [e]
  | x :: l =>
    if x.source = e.source then e :: l
    else if e.source.code < x.source.code then e :: x :: l
    else x :: insertEntry e l

/-- R35, steps 1 to 3. -/
def HoldUnit.push (h : HoldUnit) (f : Frame) : HoldUnit :=
  { h with
    stack := f :: h.stack
    pending := h.pending.filter fun e => !(e.source = f.source && e.level = f.level)
    level7 := if f.level = 7 then insertSource f.source h.level7 else h.level7 }

/-- The step index a new frame carries: the current step while RUNNING, none otherwise (R31). -/
def Bank.frameStep (b : Bank) (t : Tube) : Option Slot :=
  if (b.run t).state = .running then (b.run t).step else none

/-- R35 without its publication: the frame is pushed and HOLD_TAKEN reported. -/
def Bank.pushHold (b : Bank) (t : Tube) (s : Source) (L : Nat) : Bank :=
  (b.modHold t fun h => h.push ⟨L, s, b.clock, b.frameStep t, true⟩).report (some t) .holdTaken
    (some s.code) (some L) (slotDetail (b.frameStep t)) (held := L)

/-- What R37 makes of a source's pending entry, `old` being the entry before the request: the entry after it, and
whether HOLD_PENDING is reported. -/
def pendingAfter (old : Option PendingEntry) (s : Source) (L : Nat) (clock : BitVec 32) : PendingEntry × Bool :=
  match old with
  | none => (⟨s, L, clock, true⟩, true)
  | some e =>
    if e.present = false then (⟨s, L, clock, true⟩, true)
    else if e.level < L then ({ e with level := L }, true)
    else (e, false)

/-- R37: a request that is neither re-presented, absorbed nor taken is made pending. -/
def Bank.makePending (b : Bank) (t : Tube) (s : Source) (L : Nat) (old : Option PendingEntry) : Bank :=
  let after := pendingAfter old s L b.clock
  let b := b.modHold t fun h => { h with pending := insertEntry after.1 h.pending }
  if after.2 then b.report (some t) .holdPending (some s.code) (some after.1.level) else b

/-! ## The decision of a request (R34) -/

/-- The four outcomes of a request. -/
inductive Disposition where
  | represented | absorbed | taken | pended
  deriving DecidableEq, Repr

/-- The first row of R34's table that applies. -/
def HoldUnit.disposition (h : HoldUnit) (s : Source) (L : Nat) : Disposition :=
  if h.ownsAt s L then .represented
  else if L = 7 ∧ h.level = 7 then .absorbed
  else if h.threshold ≤ L ∧ (6 ≤ L ∨ h.window = false) then .taken
  else .pended

/-- A raise as far as the Hold Unit's own structures and reports go (R30, R34 to R37), and how it was decided. -/
def Bank.decideRaise (b : Bank) (t : Tube) (s : Source) (L : Nat) : Bank × Disposition :=
  let old := (b.hold t).entry s
  let b := b.modHold t fun h => (h.setRecord s ⟨true, L⟩).mark s true
  match (b.hold t).disposition s L with
  | .represented => (b, .represented)
  | .absorbed =>
    ((b.modHold t fun h => { h with level7 := insertSource s h.level7 }).report (some t) .level7Absorbed (some s.code),
      .absorbed)
  | .taken => (b.pushHold t s L, .taken)
  | .pended => (b.makePending t s L old, .pended)

/-- A source raises at level `L`: the request is decided at once, and a take is published (R30, R34, R35). -/
def Bank.raise (pub : Publisher) (t : Tube) (s : Source) (L : Nat) (b : Bank) : Bank :=
  let d := b.decideRaise t s L
  if d.2 = .taken then pub t d.1 else d.1

/-- A source clears (R30). -/
def Bank.clear (t : Tube) (s : Source) (b : Bank) : Bank :=
  b.modHold t fun h => (h.setRecord s ⟨false, (h.sourceRecord s).level⟩).mark s false

/-! ## Re-examination (R40) -/

/-- HOLD_WITHDRAWN for one entry. -/
def Bank.reportWithdrawn (b : Bank) (t : Tube) (c : HoldCause) (e : PendingEntry) : Bank :=
  b.report (some t) .holdWithdrawn (some e.source.code) (some e.level) (some c.code)

/-- Step 1: every cleared entry is withdrawn, in order of source number. -/
def Bank.withdrawCleared (b : Bank) (t : Tube) : Bank :=
  let gone := (b.hold t).pending.filter fun e => !e.present
  let b := b.modHold t fun h => { h with pending := h.pending.filter fun e => e.present }
  gone.foldl (fun b e => b.reportWithdrawn t .cleared e) b

/-- Step 2: the entry with the highest level, and between equal levels the lower source number, which stands first. -/
def chooseEntry : List PendingEntry → Option PendingEntry
  | [] => none
  | e :: l =>
    match chooseEntry l with
    | none => some e
    | some x => if e.level < x.level then some x else some e

/-- A re-examination without the publication of a take, which its cause makes: steps 1 to 3. After a take no entry is at
or above the new threshold, so step 4 ends it. -/
def Bank.reexamineHolds (b : Bank) (t : Tube) : Bank :=
  let b := b.withdrawCleared t
  match chooseEntry (b.hold t).pending with
  | none => b
  | some e =>
    if (b.hold t).threshold ≤ e.level ∧ (e.level = 6 ∨ (b.hold t).window = false) then b.pushHold t e.source e.level
    else b

/-! ## Releases and emptying (R44, R45, R47) -/

/-- HOLD_RELEASED with a cause. -/
def Bank.reportReleased (b : Bank) (t : Tube) (s : Source) (L : Nat) (c : HoldCause) : Bank :=
  b.report (some t) .holdReleased (some s.code) (some L) (some c.code)

/-- R44: the top frame is popped, the pending set re-examined and the resulting level published. -/
def Bank.popHold (pub : Publisher) (t : Tube) (f : Frame) (b : Bank) : Bank :=
  let b := b.modHold t fun h => { h with stack := h.stack.drop 1 }
  let b := b.reportReleased t f.source f.level .release
  pub t (b.reexamineHolds t)

/-- Every frame from the top downward, then every pending entry in order of source number, is removed and reported
(R45 steps 1 and 2, R47 step 1). -/
def Bank.emptyHolds (b : Bank) (t : Tube) (c : HoldCause) : Bank :=
  let frames := (b.hold t).stack
  let entries := (b.hold t).pending
  let b := b.modHold t fun h => { h with stack := [], pending := [] }
  let b := frames.foldl (fun b f => b.reportReleased t f.source f.level c) b
  entries.foldl (fun b e => b.reportReleased t e.source e.level c) b

/-- Is the condition of a member of the level-7 condition set present? HOST_ABORT is judged from the Run Engine (R46). -/
def Bank.memberPresent (b : Bank) (t : Tube) (s : Source) : Bool :=
  if s = .hostAbort then (b.run t).hostAbort else ((b.hold t).sourceRecord s).present

/-- The sources other than HOST whose condition is present, highest last level first and between equal levels lower
source number first (R47 step 3). -/
def HoldUnit.standing (h : HoldUnit) : List Source :=
  [7, 6, 5, 4, 3, 2, 1].flatMap fun L =>
    allSources.filter fun s => (h.sourceRecord s).present && (h.sourceRecord s).level = L

/-- The standing sources are presented again, each decided as a raise at its last level, without publication (R47). -/
def Bank.presentAgain (b : Bank) (t : Tube) : Bank :=
  (b.hold t).standing.foldl (fun b s => (b.decideRaise t s ((b.hold t).sourceRecord s).level).1) b

end Sys2Proof.Machine
end

