-- ==== Sys2Proof/Machine/GasUnit.lean ====
section
/-! DEFINITION. The Gas Channel Unit (chapter 6): the map as its channels see it, idle purge, request vectors, effective
setpoints, deviation and gas volume. -/

namespace Sys2Proof.Machine

/-! ## The map (R103) -/

/-- The channel record of a configured tube. -/
def Bank.channelConfig (b : Bank) (t : Tube) (c : Channel) : Option ChannelConfig :=
  (b.gas t).config.map fun g => g.channels[c]

/-- The map entry of the gas code a channel carries; NONE and INERT for a tube not configured. -/
def Bank.channelEntry (b : Bank) (t : Tube) (c : Channel) : MapEntry :=
  match b.channelConfig t c with
  | none => ⟨none, .inert⟩
  | some k => b.gasMap[k.code]

/-- The class of the gas a channel carries. -/
def Bank.channelClass (b : Bank) (t : Tube) (c : Channel) : GasClass := (b.channelEntry t c).cls

/-- The purge channel of a configuration (R107 lets exactly one channel carry the flag). -/
def GasConfig.purgeChannel (g : GasConfig) : Option Channel := allChannels.find? fun c => g.channels[c].purge

/-- Is this the purge channel of the tube? -/
def Bank.isPurge (b : Bank) (t : Tube) (c : Channel) : Bool :=
  match (b.gas t).config with
  | none => false
  | some g => g.purgeChannel = some c

/-- The purge floor of a configured tube; 0 while it is not configured. -/
def Bank.purgeFloor (b : Bank) (t : Tube) : Nat :=
  match (b.gas t).config with
  | none => 0
  | some g => g.floor

/-! ## Flows and vectors (R109, R110) -/

/-- The flows of the idle purge: the floor on the purge channel, 0 on every other (R109). -/
def Bank.idleFlows (b : Bank) (t : Tube) : Vector Nat 6 :=
  Vector.ofFn fun c => if b.isPurge t c then b.purgeFloor t else 0

/-- The request vector of some flows: on each line, the sum of the flows of the channels whose codes map to it (R110). -/
def Bank.requestVector (b : Bank) (t : Tube) (flows : Vector Nat 6) : Vector Nat 8 :=
  Vector.ofFn fun s => sumChannels fun c => if (b.channelEntry t c).line = some s then flows[c] else 0

/-- The idle vector of a tube (R109). -/
def Bank.idleVector (b : Bank) (t : Tube) : Vector Nat 8 := b.requestVector t (b.idleFlows t)

/-- The flow a gas part lists for a channel, 0 where it lists none (R110). -/
def listedFlow (part : List GasEntry) (c : Channel) : Nat :=
  match part.find? fun e => e.channel = c.val + 1 with
  | none => 0
  | some e => e.flow

/-- The full scale of a channel; 0 while the tube is not configured. -/
def Bank.fullScale (b : Bank) (t : Tube) (c : Channel) : Nat :=
  match b.channelConfig t c with
  | none => 0
  | some k => k.fullScale

/-- The flows of a step's gas part: listed flows clamped to full scale, the purge channel raised to its floor (R110). -/
def Bank.partFlows (b : Bank) (t : Tube) (part : List GasEntry) : Vector Nat 6 :=
  Vector.ofFn fun c =>
    let flow := min (listedFlow part c) (b.fullScale t c)
    if b.isPurge t c then max flow (b.purgeFloor t) else flow

/-- The present requested flows of a tube. -/
def Bank.requestedFlows (b : Bank) (t : Tube) : Vector Nat 6 := (b.gas t).channels.map (·.requested)

/-- The requested flows are set, and every uncovered mark cleared (R114 step 4, R117). -/
def Bank.setRequested (b : Bank) (t : Tube) (flows : Vector Nat 6) : Bank :=
  b.modGas t fun g =>
    { g with channels := Vector.ofFn fun c => { g.channels[c] with requested := flows[c], uncovered := false } }

/-! ## Deviation (R124) -/

/-- Is the channel beyond its delay (R123)? -/
def GasChannel.beyond (c : GasChannel) : Bool := decide (Config.deviationMax ≤ c.deviation)

/-- The level GAS_FLOW asks: 5 when any channel beyond its delay is FLAMMABLE, 3 otherwise (R124). -/
def Bank.gasLevel (b : Bank) (t : Tube) : Nat :=
  if allChannels.any fun c => (b.gas t).channels[c].beyond && (b.channelClass t c = .flammable) then 5 else 3

/-- The judgement of the GAS_FLOW condition (R124). -/
def Bank.judgeGasFlow (pub : Publisher) (t : Tube) (b : Bank) : Bank :=
  let was := (b.gas t).deviating
  let asked := (b.gas t).levelAsked
  let now := allChannels.any fun c => (b.gas t).channels[c].beyond
  let level := b.gasLevel t
  let b := b.modGas t fun g => { g with deviating := now, levelAsked := level }
  if now then (if was = false ∨ asked ≠ level then b.raise pub t .gasFlow level else b)
  else if was then b.clear t .gasFlow
  else b

/-! ## Effective setpoints (R119) -/

/-- The effective setpoint of a channel: the first row of R119 that applies. -/
def Bank.effectiveFlow (b : Bank) (t : Tube) (c : Channel) : Nat :=
  let cls := b.channelClass t c
  if (b.gas t).config.isNone then 0
  else if (b.channelEntry t c).line.isNone then 0
  else if (b.gas t).channels[c].uncovered then 0
  else if (cls = .flammable ∨ cls = .reactive) ∧ 3 ≤ b.level t then 0
  else if cls = .flammable ∧ (b.gate t).isOpen = false then 0
  else (b.gas t).channels[c].requested

/-- An effective setpoint that takes a value: where that changes it, the channel's timers are set to 0 (R119, R123). -/
def GasChannel.drive (c : GasChannel) (flow : Nat) : GasChannel :=
  if flow = c.effective then c else { c with effective := flow, settle := 0, deviation := 0 }

/-- The channels with their effective setpoints formed again. -/
def Bank.drivenChannels (b : Bank) (t : Tube) : Vector GasChannel 6 :=
  Vector.ofFn fun c => (b.gas t).channels[c].drive (b.effectiveFlow t c)

/-- The effective setpoints of a tube are formed again, and GAS_FLOW judged after a change (R119, R124). -/
def Bank.formEffective (pub : Publisher) (t : Tube) (b : Bank) : Bank :=
  let driven := b.drivenChannels t
  if driven = (b.gas t).channels then b
  else (b.modGas t fun g => { g with channels := driven }).judgeGasFlow pub t

/-- GAS_APPLIED: every channel's effective setpoint equals its requested flow (R120). -/
def GasUnit.applied (g : GasUnit) : Bool := allChannels.all fun c => g.channels[c].effective = g.channels[c].requested

/-! ## The gas sample (R122, R123, R125) -/

/-- A flow return in sccm: its proportion of the full scale, in whole sccm, rounded up or down as the free value says where
that is none (R122, notes/assumptions/13.md). -/
def returnedSccm (x : FlowReturn) (fullScale : Nat) : Int :=
  let scaled := x.part * fullScale
  if scaled % x.whole = 0 then scaled / x.whole
  else if Config.flowRoundsUp x.part x.whole fullScale then scaled / x.whole + 1
  else scaled / x.whole

/-- The measured flow of a channel: its flow return in proportion to full scale, clamped to 0..FS (R122). -/
def Bank.measuredFlow (b : Bank) (t : Tube) (returns : Vector FlowReturn 6) (c : Channel) : Nat :=
  (clamp (returnedSccm returns[c] (b.fullScale t c)) 0 (b.fullScale t c)).toNat

/-- The band of a channel (R123). -/
def deviationBand (effective tolerance fullScale : Nat) : Nat := max (effective * tolerance / 1000) (fullScale / 100)

/-- One channel's measurement and timers at a sample (R122 steps 1 and 2, R123). -/
def GasChannel.sample (c : GasChannel) (k : ChannelConfig) (m : Nat) : GasChannel :=
  let settle := satAdd c.settle Config.sampleTicks Config.settleMax
  let deviates := decide (settle = Config.settleMax)
    && decide (deviationBand c.effective k.tolerance k.fullScale < distance m c.effective)
  { c with
    measured := m
    settle := settle
    deviation := if deviates then satAdd c.deviation Config.sampleTicks Config.deviationMax else 0 }

/-- Steps 1 and 2 of a configured tube's sample, before GAS_FLOW is judged. -/
def Bank.sampleChannels (b : Bank) (t : Tube) (g : GasConfig) (returns : Vector FlowReturn 6) : Bank :=
  b.modGas t fun u =>
    { u with channels := Vector.ofFn fun c => u.channels[c].sample g.channels[c] (b.measuredFlow t returns c) }

/-- The sum of a channel quantity over the channels of one class. -/
def Bank.classSum (b : Bank) (t : Tube) (k : GasClass) (f : GasChannel → Nat) : Nat :=
  sumChannels fun c => if b.channelClass t c = k then f (b.gas t).channels[c] else 0

/-- Step 3 of the sample: the INERT measured flows join the step volume while RUNNING and ACTIVE (R125). -/
def Bank.addStepVolume (b : Bank) (t : Tube) : Bank :=
  if (b.run t).state = .running ∧ (b.run t).phase = .active then
    b.modGas t fun g =>
      { g with stepVolume := satAdd g.stepVolume (b.classSum t .inert (·.measured)) Config.volumeMax }
  else b

end Sys2Proof.Machine
end

