-- ==== Sys2Proof/Machine/Operands.lean ====
section
/-! DEFINITION. The fields of frames (chapter 11): integers sent least significant character first (R187), the length of
every request's payload (R188), and the step record with its presence character (R190). A payload is read by the offsets
its layout gives, once its length is known to be right. -/

namespace Sys2Proof.Machine

/-! ## Integers of a payload (R187) -/

/-- The character at offset `i` of a payload, as a number. -/
def u8 (p : List Byte) (i : Nat) : Nat := (p.getD i 0).toNat
/-- Two characters at offset `i`, least significant first. -/
def u16 (p : List Byte) (i : Nat) : Nat := u8 p i + 256 * u8 p (i + 1)
/-- Three characters at offset `i`, least significant first. -/
def u24 (p : List Byte) (i : Nat) : Nat := u16 p i + 65536 * u8 p (i + 2)
/-- Four characters at offset `i`, least significant first. -/
def u32 (p : List Byte) (i : Nat) : Nat := u16 p i + 65536 * u16 p (i + 2)
/-- Three characters in two's complement: a temperature. -/
def s24 (p : List Byte) (i : Nat) : Int := if u24 p i < 8388608 then u24 p i else (u24 p i : Int) - 16777216

/-- The low `n` characters of a number, least significant first; a negative number is in two's complement. -/
def leBytes : Nat → Int → List Byte
  | 0, _ => []
  | n + 1, x => BitVec.ofInt 8 x :: leBytes n (x / 256)

/-- A flag: 0 for clear, no or false and 1 for set, yes or true (R187). An item of two named states is sent as a flag, 1 for the
state that its field of State names: closed for a sensor, made for a seal, open for a window and a gate, held for a gate
condition, present for a condition (DESIGN CHOICE, notes/assumptions/55.md). -/
def flagByte (f : Bool) : List Byte := leBytes 1 (if f then 1 else 0)
/-- One character, 0xFF for none. -/
def optByte (x : Option Nat) : List Byte := leBytes 1 (x.getD 0xFF)
/-- A step index in one character, 0xFF for none. -/
def slotByte (i : Option Slot) : List Byte := optByte (i.map (·.val))
/-- A position in two characters, 0xFFFF for none. -/
def optPosition (x : Option Nat) : List Byte := leBytes 2 (x.getD 0xFFFF)
/-- A temperature in three characters, 0x800000 for none. -/
def optTemperature (x : Option Int) : List Byte := leBytes 3 (x.getD 0x800000)

/-- A volume kept in 1/240 scc, as it is returned: in scc, at most 4,294,967,295 (R187). -/
def returnedVolume (units : Nat) : Nat := min (units / Config.samplesPerMinute) Config.clockMax

/-! ## The request kinds (R188) -/

/-- The 27 kinds of request. -/
inductive Req where
  | loadSteps | clearSteps | readSteps | startRun | abortRun | resetTube | hold | release | setIdleTemperature
  | configureZones | setPowerLimit | readReadings | configureChannels | setGasMap | setSupplyLimit | setGateLimits
  | configureRail | locateBoat | moveBoat | clearMotionFault | setSpeedTable | setActionTable | setReportLevel
  | readBank | restartBank | readTube | readInterlocks
  deriving DecidableEq, Repr

/-- Every request kind, in the order of its code. -/
def allReqs : List Req :=
  [.loadSteps, .clearSteps, .readSteps, .startRun, .abortRun, .resetTube, .hold, .release, .setIdleTemperature,
   .configureZones, .setPowerLimit, .readReadings, .configureChannels, .setGasMap, .setSupplyLimit, .setGateLimits,
   .configureRail, .locateBoat, .moveBoat, .clearMotionFault, .setSpeedTable, .setActionTable, .setReportLevel,
   .readBank, .restartBank, .readTube, .readInterlocks]

/-- The code of a request kind. -/
def Req.code : Req → Nat
  | .loadSteps => 0x01 | .clearSteps => 0x02 | .readSteps => 0x03 | .startRun => 0x04 | .abortRun => 0x05
  | .resetTube => 0x06 | .hold => 0x07 | .release => 0x08 | .setIdleTemperature => 0x09 | .configureZones => 0x0A
  | .setPowerLimit => 0x0B | .readReadings => 0x0C | .configureChannels => 0x0D | .setGasMap => 0x0E
  | .setSupplyLimit => 0x0F | .setGateLimits => 0x10 | .configureRail => 0x11 | .locateBoat => 0x12 | .moveBoat => 0x13
  | .clearMotionFault => 0x14 | .setSpeedTable => 0x15 | .setActionTable => 0x16 | .setReportLevel => 0x17
  | .readBank => 0x18 | .restartBank => 0x19 | .readTube => 0x1A | .readInterlocks => 0x1B

/-- The request kind with a code, if there is one. -/
def Req.ofCode (k : Nat) : Option Req := allReqs.find? fun r => r.code = k

/-- Does the request carry a tube, in the first character of its payload (10.2, R188)? -/
def Req.carriesTube : Req → Bool
  | .setPowerLimit | .readReadings | .setGasMap | .setSupplyLimit | .setGateLimits | .setActionTable | .setReportLevel
  | .readBank | .restartBank | .readInterlocks => false
  | .loadSteps | .clearSteps | .readSteps | .startRun | .abortRun | .resetTube | .hold | .release | .setIdleTemperature
  | .configureZones | .configureChannels | .configureRail | .locateBoat | .moveBoat | .clearMotionFault | .setSpeedTable
  | .readTube => true

/-- Is the request handed on for an UNCONFIGURED tube (R175)? -/
def Req.takenUnconfigured : Req → Bool
  | .configureZones | .configureChannels | .configureRail | .readSteps | .readTube => true
  | .loadSteps | .clearSteps | .startRun | .abortRun | .resetTube | .hold | .release | .setIdleTemperature
  | .setPowerLimit | .readReadings | .setGasMap | .setSupplyLimit | .setGateLimits | .locateBoat | .moveBoat
  | .clearMotionFault | .setSpeedTable | .setActionTable | .setReportLevel | .readBank | .restartBank
  | .readInterlocks => false

/-! ## The step record (R190) -/

/-- A record as it stands in a LOAD STEPS payload. `orphanOffsets` says that the offsets flag was set while the thermal
flag was clear, which fails the record's checks. -/
structure ParsedRecord where
  record : StepRecord
  orphanOffsets : Bool
  deriving DecidableEq, Repr

/-- Reads `n` entries of channel (1) and flow (2). -/
def readGasEntries : Nat → List Byte → List GasEntry
  | 0, _ => []
  | n + 1, p => ⟨u8 p 0, u16 p 1⟩ :: readGasEntries n (p.drop 3)

/-- Splits off a part of `n` characters when its presence flag is set: the part if present, and what follows. None when
the payload ends inside the part. -/
def takePart (present : Bool) (n : Nat) (p : List Byte) : Option (Option (List Byte) × List Byte) :=
  if present then (if n ≤ p.length then some (some (p.take n), p.drop n) else none) else some (none, p)

/-- Splits off the gas part: its entry count, then that many entries. -/
def takeGas (present : Bool) (p : List Byte) : Option (Option (List Byte) × List Byte) :=
  takePart present (1 + 3 * u8 p 0) p

/-- Three offsets of three characters. -/
def readOffsets (p : List Byte) : Vector Int 3 := #v[s24 p 0, s24 p 3, s24 p 6]

/-- Walks one record: the record and the characters after it; none when the payload ends inside it (R190). -/
def parseRecord (p : List Byte) : Option (ParsedRecord × List Byte) :=
  let flags := p.getD 0 0
  if p.length < 7 then none else
  match takePart (flags.getLsbD 0) 10 (p.drop 7) with
  | none => none
  | some (thermal, p1) =>
  match takePart (flags.getLsbD 1) 9 p1 with
  | none => none
  | some (offsets, p2) =>
  match takePart (flags.getLsbD 2) 5 p2 with
  | none => none
  | some (stability, p3) =>
  match takeGas (flags.getLsbD 3) p3 with
  | none => none
  | some (gas, p4) =>
  match takePart (flags.getLsbD 4) 4 p4 with
  | none => none
  | some (purge, p5) =>
  match takePart (flags.getLsbD 5) 4 p5 with
  | none => none
  | some (motion, p6) =>
  match takePart (flags.getLsbD 6) 2 p6 with
  | none => none
  | some (repetition, p7) =>
  some (
    { record :=
        { duration := u24 p 1
          maxTime := u24 p 4
          thermal := thermal.map fun q => ⟨s24 q 0, u16 q 3, offsets.map readOffsets, s24 q 5, u16 q 8⟩
          stability := stability.map fun q => ⟨s24 q 0, u16 q 3⟩
          gas := gas.map fun q => readGasEntries (u8 q 0) (q.drop 1)
          purge := purge.map fun q => u32 q 0
          motion := motion.map fun q => ⟨u16 q 0, u16 q 2⟩
          repetition := repetition.map fun q => ⟨u8 q 0, u8 q 1⟩
          final := flags.getLsbD 7 }
      orphanOffsets := offsets.isSome && thermal.isNone },
    p7)

/-- Walks `n` records that must consume the payload exactly. -/
def parseRecords : Nat → List Byte → Option (List ParsedRecord)
  | 0, p => if p.isEmpty then some [] else none
  | n + 1, p =>
    match parseRecord p with
    | none => none
    | some (r, rest) => (parseRecords n rest).map (r :: ·)

/-- The presence character of a record. -/
def StepRecord.presence (r : StepRecord) : Nat :=
  (if r.thermal.isSome then 1 else 0) + (if r.thermal.any (·.offsets.isSome) then 2 else 0)
    + (if r.stability.isSome then 4 else 0) + (if r.gas.isSome then 8 else 0) + (if r.purge.isSome then 16 else 0)
    + (if r.motion.isSome then 32 else 0) + (if r.repetition.isSome then 64 else 0) + (if r.final then 128 else 0)

/-- The characters of a part that may be absent. -/
def partBytes {α : Type} (x : Option α) (f : α → List Byte) : List Byte :=
  match x with
  | none => []
  | some a => f a

/-- A stored record in the layout of R190. -/
def StepRecord.bytes (r : StepRecord) : List Byte :=
  leBytes 1 r.presence ++ leBytes 3 r.duration ++ leBytes 3 r.maxTime
    ++ partBytes r.thermal (fun q => leBytes 3 q.target ++ leBytes 2 q.rate ++ leBytes 3 q.band ++ leBytes 2 q.lagLimit
        ++ partBytes q.offsets fun o => leBytes 3 o[0] ++ leBytes 3 o[1] ++ leBytes 3 o[2])
    ++ partBytes r.stability (fun q => leBytes 3 q.band ++ leBytes 2 q.time)
    ++ partBytes r.gas (fun l => leBytes 1 l.length ++ l.flatMap fun e => leBytes 1 e.channel ++ leBytes 2 e.flow)
    ++ partBytes r.purge (fun v => leBytes 4 v)
    ++ partBytes r.motion (fun q => leBytes 2 q.target ++ leBytes 2 q.speed)
    ++ partBytes r.repetition (fun q => leBytes 1 q.toIndex ++ leBytes 1 q.count)

/-! ## The length of a payload (R175, R188) -/

/-- Does the payload's length match the kind's layout, a declared count included? -/
def Req.lengthOk (r : Req) (p : List Byte) : Bool :=
  match r with
  | .loadSteps => decide (3 ≤ p.length) && (parseRecords (u8 p 2) (p.drop 3)).isSome
  | .clearSteps | .abortRun | .resetTube | .locateBoat | .clearMotionFault | .setReportLevel => p.length = 1
  | .readSteps | .hold | .release | .setPowerLimit | .readTube => p.length = 2
  | .startRun => p.length = 3
  | .setIdleTemperature => p.length = 6
  | .configureZones => p.length = 50
  | .readReadings | .readBank | .restartBank | .readInterlocks => p.length = 0
  | .configureChannels => p.length = 43
  | .setGasMap => decide (2 ≤ p.length) && decide (p.length = 2 + 2 * u8 p 1)
  | .setSupplyLimit => p.length = 4
  | .setGateLimits => p.length = 5
  | .configureRail => p.length = 11
  | .moveBoat => p.length = 5
  | .setSpeedTable => p.length = 33
  | .setActionTable => decide (3 ≤ p.length) && decide (p.length = 3 + u8 p 2)

/-- The tube number in the first character: 1..4, or none for 0 and above 4 (R175). -/
def requestTube (p : List Byte) : Option Tube :=
  match u8 p 0 with
  | 1 => some 0
  | 2 => some 1
  | 3 => some 2
  | 4 => some 3
  | _ => none

/-- A number that lies in 0..n−1. -/
def asFin (n x : Nat) : Option (Fin n) := if h : x < n then some ⟨x, h⟩ else none

end Sys2Proof.Machine
end

