-- ==== Sys2Proof/Machine/PurgeGate.lean ====
section
/-! DEFINITION. The Purge and Gate Unit (chapter 7): purge credit, PURGE_DONE, the oxidant-established timer, the six gate
conditions, and the opening and closing of the flammable gate. -/

namespace Sys2Proof.Machine

/-! ## Closing the gate (R135, R136, R138) -/

/-- The gate-loss test against the effective setpoints the Gas Channel Unit holds (R138). -/
def Bank.flammableFlows (b : Bank) (t : Tube) : Bool :=
  allChannels.any fun c => (b.channelClass t c = .flammable) && decide (0 < (b.gas t).channels[c].effective)

/-- A gate loss raises GATE at level 6 unless its condition is already present (R138). -/
def Bank.gateLoss (pub : Publisher) (t : Tube) (b : Bank) : Bank :=
  if (b.gate t).lost then b else (b.modGate t fun g => { g with lost := true }).raise pub t .gate 6

/-- The gate closes: state, GATE_CLOSED with its cause (and the failed condition), GATE where hydrogen was cut off, and
the effective setpoints (R135, R136). -/
def Bank.closeGate (pub : Publisher) (t : Tube) (cause : GateCause) (failed : Option Nat) (loss : Bool) (b : Bank) : Bank :=
  let b := b.modGate t fun g => { g with isOpen := false }
  let b := b.report (some t) .gateClosed (some cause.code) (failed.map fun n => (n : Int))
  let b := if loss then b.gateLoss pub t else b
  b.formEffective pub t

/-- The seal has opened: the credit returns to 0 and an open gate closes with cause SEAL (R129, R136). -/
def Bank.sealOpened (pub : Publisher) (t : Tube) (b : Bank) : Bank :=
  let b := b.modGate t fun g => { g with sealed := false, credit := 0 }
  if (b.gate t).isOpen then b.closeGate pub t .sealOpened none (b.flammableFlows t) else b

/-- The seal has been made (R129). -/
def Bank.sealMade (t : Tube) (b : Bank) : Bank := b.modGate t fun g => { g with sealed := true }

/-! ## The sample (R128 to R135, R139) -/

/-- What the Gas Channel Unit hands on at a sample, as far as the unit uses it: the sums by class, whether a FLAMMABLE
channel has an effective setpoint above 0, and the step volume (R125). -/
structure HandOn where
  inertMeasured : Nat
  oxidantSetpoint : Nat
  oxidantMeasured : Nat
  flammableRequested : Nat
  flammableFlows : Bool
  stepVolume : Nat
  deriving DecidableEq, Repr

/-- The hand-on of a sample (R125). -/
def Bank.handOn (b : Bank) (t : Tube) : HandOn where
  inertMeasured := b.classSum t .inert (·.measured)
  oxidantSetpoint := b.classSum t .oxidant (·.effective)
  oxidantMeasured := b.classSum t .oxidant (·.measured)
  flammableRequested := b.classSum t .flammable (·.requested)
  flammableFlows := b.flammableFlows t
  stepVolume := (b.gas t).stepVolume

/-- Is the purge target reached by a step volume (R130)? -/
def purgeReached (target : Option Nat) (volume : Nat) : Bool :=
  match target with
  | none => false
  | some v => decide (v * Config.samplesPerMinute ≤ volume)

/-- Does a sample pass the oxidant test (R131)? -/
def HandOn.oxidantPasses (h : HandOn) : Bool :=
  decide (0 < h.oxidantSetpoint) && decide (h.oxidantSetpoint * 9 ≤ h.oxidantMeasured * 10)

/-- The accounts at a sample: credit, PURGE_DONE, oxidant-established timer and sums (R128, R130, R131). -/
def PurgeGate.account (g : PurgeGate) (h : HandOn) : PurgeGate :=
  { g with
    credit := if g.sealed then satAdd g.credit h.inertMeasured Config.volumeMax else g.credit
    purgeDone := g.purgeDone || purgeReached g.target h.stepVolume
    oxidantTimer := if h.oxidantPasses then satAdd g.oxidantTimer Config.sampleTicks Config.oxidantMax else 0
    oxidantSetpoint := h.oxidantSetpoint
    oxidantMeasured := h.oxidantMeasured }

/-- The gate purge volume of CONFIGURE CHANNELS; 0 while the tube is not configured. -/
def Bank.gateVolume (b : Bank) (t : Tube) : Nat :=
  match (b.gas t).config with
  | none => 0
  | some g => g.gateVolume

/-- The six gate conditions, 1 to 6 in order (R133). -/
def Bank.gateConditions (b : Bank) (t : Tube) (h : HandOn) : Vector Bool 6 :=
  #v[(b.gate t).sealed,
     allZones.all fun z => (b.control t z).isGood && decide (b.threshold ≤ (b.control t z).value),
     decide (b.gateVolume t * Config.samplesPerMinute ≤ (b.gate t).credit),
     decide ((b.gate t).oxidantTimer = Config.oxidantMax),
     decide (b.level t < 3),
     decide (h.flammableRequested * 1000 ≤ h.oxidantMeasured * b.ratio)]

/-- The lowest number of a failed condition, 1..6, if any failed (R135). -/
def lowestFailed (v : Vector Bool 6) : Option Nat := (allChannels.find? fun i => !v[i]).map fun i => i.val + 1

/-- The gate opens: GATE_OPEN, and the effective setpoints formed again (R134). -/
def Bank.openGate (pub : Publisher) (t : Tube) (h : HandOn) (b : Bank) : Bank :=
  let b := b.modGate t fun g => { g with isOpen := true }
  let b := b.report (some t) .gateOpen (some (returnedVolume (b.gate t).credit)) (some h.oxidantMeasured)
    (some h.flammableRequested)
  b.formEffective pub t

/-- A present GATE condition clears when every FLAMMABLE channel of the hand-on has a requested flow of 0 (R139). -/
def Bank.judgeGateLost (t : Tube) (h : HandOn) (b : Bank) : Bank :=
  if (b.gate t).lost ∧ h.flammableRequested = 0 then (b.modGate t fun g => { g with lost := false }).clear t .gate else b

/-- The Purge and Gate Unit's own work at a sample (R128 to R135, R139). -/
def Bank.gateSample (pub : Publisher) (t : Tube) (h : HandOn) (b : Bank) : Bank :=
  let b := b.modGate t fun g => g.account h
  let conditions := b.gateConditions t h
  let b := b.modGate t fun g => { g with conditions := conditions }
  let b :=
    match lowestFailed conditions, (b.gate t).isOpen with
    | none, false => b.openGate pub t h
    | some n, true => b.closeGate pub t .condition (some n) h.flammableFlows
    | none, true => b
    | some _, false => b
  b.judgeGateLost t h

/-- The gas sample of a tube (R122); a tube whose CONFIGURE CHANNELS has not been accepted does nothing at it. -/
def Bank.gasSample (pub : Publisher) (t : Tube) (returns : Vector FlowReturn 6) (b : Bank) : Bank :=
  match (b.gas t).config with
  | none => b
  | some g =>
    let b := (b.sampleChannels t g returns).judgeGasFlow pub t
    let b := b.addStepVolume t
    b.gateSample pub t (b.handOn t)

end Sys2Proof.Machine
end

