-- ==== Sys2Proof/Machine/BoatDrive.lean ====
section
/-! DEFINITION. The Boat Drive (chapter 8): the rail and its marks, speed, orders, coming to rest, locating, mark
verification, FAULT, the door-zone window and the seal. -/

namespace Sys2Proof.Machine

/-! ## The rail (R141, R143) -/

/-- The position of mark `k`. -/
def markAt (k : Nat) : Nat := k * Config.markSpacing

/-- Does position `p` lie in the window of mark `k` (R143)? -/
def inWindow (k p : Nat) : Bool := decide (markAt k ≤ p + Config.markWindow) && decide (p ≤ markAt k + Config.markWindow)

/-- Does the rail have mark `k` (R143)? -/
def Rail.hasMark (r : Rail) (k : Nat) : Bool := decide (markAt k ≤ r.length)

/-- Does position `p` lie in the door zone, Dz..I (R141)? -/
def Rail.inZone (r : Rail) (p : Nat) : Bool := decide (r.doorZone ≤ p) && decide (p ≤ r.inPos)

/-- The approached marks of a move: those between its start and its target, both included (R153). -/
def Travel.approaches (v : Travel) (r : Rail) (k : Nat) : Bool :=
  r.hasMark k && decide (min v.start v.target ≤ markAt k) && decide (markAt k ≤ max v.start v.target)

/-- The start mark: the mark whose window contains the start (R153). -/
def Travel.startMark (v : Travel) (r : Rail) (k : Nat) : Bool := r.hasMark k && inWindow k v.start

/-- Is a read of mark `k` at counted position `p` verified? First row of R153's table. -/
def Travel.approachRead (v : Travel) (r : Rail) (p k : Nat) : Bool :=
  v.approaches r k && !v.marksRead.contains k && inWindow k p

/-- Is a read of mark `k` at counted position `p` verified? First or second row of R153's table. The second row verifies a
start mark that lies behind the start too, where R143 has resyncs at marks between start and target alone: R153, the rule of
the judgement, is followed (DEDUCED, notes/assumptions/50.md). -/
def Travel.verifies (v : Travel) (r : Rail) (p k : Nat) : Bool :=
  v.approachRead r p k || (v.startMark r k && inWindow k p)

/-- Can mark `k` still be read as the next mark ahead? It is approached, stands beyond the start, is not yet read, and its
window has not been passed. A start mark that stands beyond the start is one of these (R149, R156, R157). -/
def Travel.ahead (v : Travel) (r : Rail) (p k : Nat) : Bool :=
  v.approaches r k && !v.marksRead.contains k &&
    (if v.inward then decide (v.start < markAt k) && decide (p ≤ markAt k + Config.markWindow)
     else decide (markAt k < v.start) && decide (markAt k ≤ p + Config.markWindow))

/-- The mark numbers of the longest rail. -/
def allMarks : List Nat := List.range (Config.markLast + 1)

/-- The next mark ahead not yet read in this move, if one lies before or at the target (R149, R156). -/
def Travel.nextMark (v : Travel) (r : Rail) (p : Nat) : Option Nat :=
  if v.inward then allMarks.find? (v.ahead r p) else allMarks.reverse.find? (v.ahead r p)

/-- The stopping point: the next mark ahead, or the target when that is nearer (R149, R156). -/
def Travel.stoppingPoint (v : Travel) (r : Rail) (p : Nat) : Nat :=
  match v.nextMark r p with
  | none => v.target
  | some k => markAt k

/-- Does a step to position `p` leave mark `k`'s window unread on the side away from the start (R153)? -/
def Travel.misses (v : Travel) (r : Rail) (p k : Nat) : Bool :=
  v.approaches r k && !v.marksRead.contains k && !v.startMark r k &&
    (if v.inward then decide (p = markAt k + Config.markWindow + 1) else decide (p + Config.markWindow + 1 = markAt k))

/-- Has a position come to the target, or past it, in the direction of travel? -/
def Travel.arrived (v : Travel) (p : Nat) : Bool := if v.inward then decide (v.target ≤ p) else decide (p ≤ v.target)

/-! ## Speed (R150, R151) -/

/-- The highest of the GOOD control readings of a tube, if any is GOOD. -/
def Bank.hottest (b : Bank) (t : Tube) : Option Int :=
  (allZones.filter fun z => (b.control t z).isGood).foldl
    (fun m z => some (match m with | none => (b.control t z).value | some x => max x (b.control t z).value)) none

/-- The speed band of a tube (R150). -/
def Bank.speedBand (b : Bank) (t : Tube) : Fin 16 :=
  match b.hottest t with
  | none => 15
  | some hot => Fin.ofNat 16 (clamp (hot / 10000) 0 15).toNat

/-- The least of the speed asked and the speed table's entry for the band (R150). -/
def Bank.freeSpeed (b : Bank) (t : Tube) (asked : Nat) : Nat := min asked (b.boat t).table[b.speedBand t]

/-- The door-zone speed applied to a speed where it binds (R150). -/
def zoneSpeed (r : Rail) (inside : Bool) (v : Nat) : Nat := if inside then min v r.doorSpeed else v

/-- The commanded speed of an order at a position (R150). -/
def Bank.commandedSpeed (b : Bank) (t : Tube) (r : Rail) (p asked : Nat) : Nat :=
  zoneSpeed r (r.inZone p) (b.freeSpeed t asked)

/-! ## The door-zone window and the seal (R158, R159) -/

/-- Is the paddle in motion? -/
def PaddleState.inMotion (s : PaddleState) : Bool := s = .moving || s = .stopping

/-- A locate is in progress: the paddle is MOVING under a LOCATE order. -/
def Boat.locating (x : Boat) : Bool := x.paddle = .moving && x.locate.isSome

/-- The door-zone window as the paddle stands (R158). -/
def Boat.windowOpen (x : Boat) : Bool :=
  x.locating ||
    (x.paddle.inMotion &&
      match x.rail, x.position with
      | some r, some p => r.inZone p
      | _, _ => false)

/-- A change of the window is signalled to the Hold Unit, which re-examines at a closing (R39, R40, R158). -/
def Bank.judgeWindow (pub : Publisher) (t : Tube) (b : Bank) : Bank :=
  let opened := (b.boat t).windowOpen
  if opened = (b.hold t).window then b
  else
    let b := b.modHold t fun h => { h with window := opened }
    if opened then b else pub t (b.reexamineHolds t)

/-- The seal as the paddle and its sensor stand (R159). -/
def Boat.sealStands (x : Boat) : Bool :=
  x.paddle = .stopped && x.sensor &&
    match x.rail, x.position with
    | some r, some p => p = r.inPos
    | _, _ => false

/-- A position as a report detail, absent for none. -/
def positionDetail (p : Option Nat) : Option Int := p.map fun p => (p : Int)

/-- The seal is judged; a change is reported and signalled to the Purge and Gate Unit (R159). The sensor is reported as 1 for
closed (DESIGN CHOICE, notes/assumptions/55.md). -/
def Bank.judgeSeal (pub : Publisher) (t : Tube) (b : Bank) : Bank :=
  let made := (b.boat t).sealStands
  if made = (b.gate t).sealed then b
  else
    let b := b.report (some t) (if made then .sealMade else .sealOpened) (positionDetail (b.boat t).position)
      (some (flagDetail (b.boat t).sensor))
    if made then b.sealMade t else b.sealOpened pub t

/-! ## The MOTION condition (R154) -/

/-- The MOTION condition is judged; a change is told to the Hold Unit. -/
def Bank.judgeMotion (pub : Publisher) (t : Tube) (b : Bank) : Bank :=
  let x := b.boat t
  let now := x.paddle = .fault || x.unlocWaiting
  if now = x.motion then b
  else
    let b := b.modBoat t fun x => { x with motion := now }
    if now then b.raise pub t .motion 5 else b.clear t .motion

/-- The move order is discarded: with it goes its unlocated-waiting mark, and its blocked flag unless that is a waiting
locate's (R144, R154). -/
def Bank.discardOrder (pub : Publisher) (t : Tube) (b : Bank) : Bank :=
  (b.modBoat t fun x =>
    { x with order := none, unlocWaiting := false, blocked := x.blocked && x.locate.isSome }).judgeMotion pub t

/-! ## Starting an order (R145) -/

/-- MOTION_DONE: order kind, step index or none, position (R156). -/
def Bank.reportMotionDone (b : Bank) (t : Tube) (k : MoveKind) (step : Option Slot) : Bank :=
  b.report (some t) .motionDone (some k.code) (slotDetail step) (positionDetail (b.boat t).position)

/-- Is this a STEP order of the current step, whose finishing makes MOTION_DONE true (R149)? -/
def MoveOrder.ofCurrentStep (o : MoveOrder) : Bool := o.kind = .step && o.current

/-- An order whose paddle stands at its target is finished at once (R145 step 1). -/
def Bank.finishAtRest (b : Bank) (t : Tube) (o : MoveOrder) : Bank :=
  (b.modBoat t fun x =>
    { x with order := none, blocked := false, unlocWaiting := false
             motionDone := x.motionDone || o.ofCurrentStep }).reportMotionDone t o.kind o.step

/-- A paddle sets out from rest at position `p` (R145 step 4, R151). -/
def Boat.setOut (x : Boat) (o : MoveOrder) (p free speed : Nat) (band : Fin 16) : Boat :=
  { x with
    paddle := .moving
    blocked := false
    speed := speed
    band := band.val
    travel := some ⟨decide (p < o.target), p, o.target, o.speed, free, []⟩ }

/-- An order starts from rest, or waits held, blocked or unlocated-waiting (R145). While a LOCATE order is present it waits
beside it (R146); an order that finds the paddle in motion waits for its rest (R149). -/
def Bank.startOrder (pub : Publisher) (t : Tube) (b : Bank) : Bank :=
  let x := b.boat t
  match x.order, x.rail with
  | some o, some r =>
    if x.locate.isSome ∨ x.paddle.inMotion then b
    else if x.paddle = .stopped ∧ x.position = some o.target ∧ b.level t ≤ 6 then b.finishAtRest t o
    else if 0 < b.level t then b
    else
      match x.paddle, x.position with
      | .stopped, some p =>
        let free := b.freeSpeed t o.speed
        let speed := b.commandedSpeed t r p o.speed
        let band := b.speedBand t
        if speed = 0 then b.modBoat t fun x => { x with blocked := true, speed := 0, band := band.val }
        else ((b.modBoat t fun x => x.setOut o p free speed band).judgeWindow pub t).judgeSeal pub t
      | _, _ =>
        if o.kind = .step then (b.modBoat t fun x => { x with unlocWaiting := true }).judgeMotion pub t else b
  | _, _ => b

/-! ## Coming to rest (R156) -/

/-- What the rest at position `p` finishes: the order under which the paddle travelled, or the one the stopping record
left behind, when the rest is at its target (R149, R156). -/
def Boat.finishedBy (x : Boat) (p : Option Nat) : Option MoveOrder :=
  match x.stopping with
  | some q => if p = some q.target then some ⟨q.kind, q.target, 0, q.step, false⟩ else none
  | none =>
    match x.order with
    | some o => if p = some o.target then some o else none
    | none => none

/-- The paddle comes to rest where it stands: window, MOTION_DONE and seal follow in this order (R156, R158), and an order
that waited for the rest starts (R149). `blocked` says that an evaluation gave 0 (R151). -/
def Bank.comeToRest (pub : Publisher) (t : Tube) (blocked : Bool) (b : Bank) : Bank :=
  let x := b.boat t
  let finished := x.finishedBy x.position
  let leftBehind := x.stopping.isSome
  let b := b.modBoat t fun x =>
    { x with
      paddle := .stopped
      travel := none
      stopping := none
      speed := 0
      order := if finished.isSome && !leftBehind then none else x.order
      blocked := blocked && !leftBehind && finished.isNone
      motionDone := x.motionDone || finished.any MoveOrder.ofCurrentStep }
  let b := b.judgeWindow pub t
  let b := match finished with | some o => b.reportMotionDone t o.kind o.step | none => b
  let b := b.judgeSeal pub t
  if leftBehind then b.startOrder pub t else b

/-! ## FAULT (R154) -/

/-- A mark number as a character of MOTION_FAULT's packed detail, 0xFF for none (R192). -/
def markChar (k : Option Nat) : Int := (k.getD 0xFF : Nat)

/-- Entry into FAULT (R154). -/
def Bank.enterFault (pub : Publisher) (t : Tube) (cause : MotionCause) (expected read : Option Nat) (b : Bank) : Bank :=
  let b := b.modBoat t fun x =>
    { x with
      paddle := .fault
      travel := none
      stopping := none
      locate := none
      speed := 0
      blocked := false }
  let b := b.judgeWindow pub t
  let b := b.judgeSeal pub t
  let b := b.report (some t) .motionFault (some cause.code) (positionDetail (b.boat t).position)
    (some (markChar expected + 256 * markChar read))
  b.judgeMotion pub t

/-! ## Locating (R146, R147) -/

/-- The commanded speed of a locate: the door-zone speed always binds (R146, R150). -/
def Bank.locateSpeed (b : Bank) (t : Tube) (r : Rail) (asked : Nat) : Nat := zoneSpeed r true (b.freeSpeed t asked)

/-- A LOCATE order is evaluated at rest: blocked at 0, else the paddle sets out toward position 0 (R146). -/
def Bank.startLocate (pub : Publisher) (t : Tube) (b : Bank) : Bank :=
  let x := b.boat t
  match x.locate, x.rail with
  | some asked, some r =>
    let speed := b.locateSpeed t r asked
    let band := b.speedBand t
    if speed = 0 then b.modBoat t fun x => { x with blocked := true, speed := 0, band := band.val }
    else
      ((b.modBoat t fun x =>
        { x with paddle := .moving, blocked := false, speed := speed, band := band.val, locateTravel := 0 }).judgeWindow
          pub t).judgeSeal pub t
  | _, _ => b

/-- A locate ends at mark `k`: its speed is evaluated at the read, which leaves the band, and the paddle stands (R147, R151,
R160). BOAT_LOCATED stands before the report of a seal made there (DEDUCED, notes/assumptions/26.md), and
the locate travel count keeps its value (DEDUCED, notes/assumptions/58.md). -/
def Bank.endLocate (pub : Publisher) (t : Tube) (k : Nat) (b : Bank) : Bank :=
  let band := b.speedBand t
  let b := b.modBoat t fun x =>
    { x with
      paddle := .stopped, position := some (markAt k), locate := none, speed := 0, band := band.val, blocked := false }
  let b := b.judgeWindow pub t
  let b := b.report (some t) .boatLocated (some k) (some (markAt k))
  let b := b.judgeSeal pub t
  let b := (b.modBoat t fun x => { x with unlocWaiting := false }).judgeMotion pub t
  b.startOrder pub t

/-- A mark above the in-position: the locate goes on, its speed evaluated again; at 0 it waits blocked (R147, R151). -/
def Bank.goOnLocating (pub : Publisher) (t : Tube) (r : Rail) (asked : Nat) (b : Bank) : Bank :=
  let speed := b.locateSpeed t r asked
  let band := b.speedBand t
  let b := b.modBoat t fun x =>
    { x with
      locateTravel := 0, speed := speed, band := band.val
      paddle := if speed = 0 then .unlocated else .moving
      blocked := decide (speed = 0) }
  b.judgeWindow pub t

/-! ## A step of the drive (R143, R151, R153) -/

/-- The position one step further in the direction of travel; a move passes only between its start and its target (R143). -/
def Travel.stepFrom (v : Travel) (p : Nat) : Nat := if v.inward then min (p + 1) v.target else max (p - 1) v.target

/-- A step that crosses the lower end of the door zone: the door-zone speed is applied to the speed last evaluated, or
lifted (R151). -/
def Boat.crossing (x : Boat) (r : Rail) (v : Travel) (p q : Nat) : Boat :=
  if r.inZone p = r.inZone q then x else { x with speed := zoneSpeed r (r.inZone q) v.freeSpeed }

/-- The counted position becomes `q`, and the point of a stopping record with it: a start mark passed without its read is no
miss (R153), and the next mark ahead is then the one beyond it (R149, R156). -/
def Boat.stepTo (x : Boat) (r : Rail) (v : Travel) (q : Nat) : Boat :=
  { x with position := some q, stopping := x.stopping.map fun s => { s with point := v.stoppingPoint r q } }

/-- One step of a located paddle in motion: crossing and window, then a miss, then the target. -/
def Bank.stepMove (pub : Publisher) (t : Tube) (r : Rail) (v : Travel) (p : Nat) (b : Bank) : Bank :=
  let q := v.stepFrom p
  let b := b.modBoat t fun x => (x.stepTo r v q).crossing r v p q
  let b := b.judgeWindow pub t
  match allMarks.find? (v.misses r q) with
  | some k => b.enterFault pub t .miss (some k) none
  | none => if q = v.target then b.comeToRest pub t false else b

/-- One step of a locate; at 540 steps without a mark it has failed (R147). -/
def Bank.stepLocate (pub : Publisher) (t : Tube) (b : Bank) : Bank :=
  let b := b.modBoat t fun x => { x with locateTravel := x.locateTravel + 1 }
  if Config.locateLimit ≤ (b.boat t).locateTravel then b.enterFault pub t .locateMiss none none else b

/-- The drive issues one step (R143). A paddle at rest is issued none. -/
def Bank.paddleStep (pub : Publisher) (t : Tube) (b : Bank) : Bank :=
  let x := b.boat t
  if x.locating then b.stepLocate pub t
  else if x.paddle.inMotion then
    match x.rail, x.travel, x.position with
    | some r, some v, some p => b.stepMove pub t r v p
    | _, _, _ => b
  else b

/-! ## A mark read (R147, R151, R153, R156) -/

/-- The resync of a verified read: mark `k`'s position, not above the in-position (R143), and the target itself when the
read carries the position to it or past it (R153). At a start mark behind the start it moves the position behind the start
(DEDUCED, notes/assumptions/50.md). -/
def Travel.resync (v : Travel) (r : Rail) (k : Nat) : Nat :=
  let p := min (markAt k) r.inPos
  if v.arrived p then v.target else p

/-- A verified read: resync and an evaluation of the speed; then the rest it brings, at the stopping point, at the target or
at a speed of 0, which leaves an unfinished order blocked (R151, R153, R156). -/
def Bank.verifiedRead (pub : Publisher) (t : Tube) (r : Rail) (v : Travel) (p k : Nat) (b : Bank) : Bank :=
  let stops := decide ((b.boat t).paddle = .stopping) && decide (v.nextMark r p = some k)
  let q := v.resync r k
  let free := b.freeSpeed t v.asked
  let speed := b.commandedSpeed t r q v.asked
  let band := b.speedBand t
  let b := b.modBoat t fun x =>
    { x with
      position := some q, speed := speed, band := band.val
      travel := some { v with marksRead := k :: v.marksRead, freeSpeed := free } }
  if stops ∨ q = v.target ∨ speed = 0 then b.comeToRest pub t (decide (speed = 0)) else b.judgeWindow pub t

/-- A read during a move (R153). -/
def Bank.readMove (pub : Publisher) (t : Tube) (r : Rail) (v : Travel) (p k : Nat) (b : Bank) : Bank :=
  if v.verifies r p k then b.verifiedRead pub t r v p k
  else b.enterFault pub t .mismatch (v.nextMark r p) (some k)

/-- The mark reader gives the number `k`; a read while the paddle is at rest is ignored (R147, R153). -/
def Bank.markRead (pub : Publisher) (t : Tube) (k : Nat) (b : Bank) : Bank :=
  let x := b.boat t
  match x.rail with
  | none => b
  | some r =>
    if x.locating then
      if markAt k ≤ r.inPos then b.endLocate pub t k
      else b.goOnLocating pub t r (x.locate.getD 0)
    else if x.paddle.inMotion then
      match x.travel, x.position with
      | some v, some p => b.readMove pub t r v p k
      | _, _ => b
    else b

/-! ## What other blocks bring about (R145, R149, R157) -/

/-- The stopping record of a paddle in motion whose order is replaced or discarded; one that stands is kept (R149). -/
def Boat.leaveBehind (x : Boat) : Boat :=
  match x.stopping, x.order, x.rail, x.travel, x.position with
  | none, some o, some r, some v, some p =>
    { x with paddle := .stopping, stopping := some ⟨v.stoppingPoint r p, o.kind, o.step, v.target⟩ }
  | _, _, _, _, _ => { x with paddle := .stopping }

/-- A paddle travels under a move order, and not under a locate. -/
def Boat.travelling (x : Boat) : Bool := x.paddle.inMotion && x.locate.isNone

/-- A step's motion part, handed over at the step's first ACTIVE (R149). -/
def Bank.takeMotionPart (pub : Publisher) (t : Tube) (i : Slot) (q : MotionPart) (b : Bank) : Bank :=
  match (b.boat t).rail with
  | none => b
  | some r =>
    let o : MoveOrder := ⟨.step, min q.target r.inPos, q.speed, some i, true⟩
    let moving := (b.boat t).travelling
    let b := b.modBoat t fun x => if moving then x.leaveBehind else x
    let b := b.discardOrder pub t
    let b := b.modBoat t fun x => { x with order := some o, motionDone := false }
    b.startOrder pub t

/-- Each new control reading of the tube: a blocked order, or a blocked locate, is evaluated again (R145, R146, R151). -/
def Bank.newControlReading (pub : Publisher) (t : Tube) (b : Bank) : Bank :=
  let x := b.boat t
  if x.blocked = false ∨ x.paddle.inMotion then b
  else if x.locate.isSome then b.startLocate pub t
  else b.startOrder pub t

/-- A STOPPING paddle under its order goes back to MOVING at hold level 0, with a new speed evaluation (R157). DESIGN CHOICE
(notes/assumptions/10.md): an evaluation that gives 0 brings it to rest where it stands, blocked. -/
def Bank.resumeMove (pub : Publisher) (t : Tube) (b : Bank) : Bank :=
  let x := b.boat t
  match x.rail, x.travel, x.position with
  | some r, some v, some p =>
    let free := b.freeSpeed t v.asked
    let speed := b.commandedSpeed t r p v.asked
    let band := b.speedBand t
    let b := b.modBoat t fun x =>
      { x with paddle := .moving, speed := speed, band := band.val, travel := some { v with freeSpeed := free } }
    if speed = 0 then b.comeToRest pub t true else b
  | _, _, _ => b

/-- A published hold level of 7: the paddle stops at once and every order is discarded (R157, R147). -/
def Bank.stopAtOnce (pub : Publisher) (t : Tube) (b : Bank) : Bank :=
  let b := b.modBoat t fun x =>
    { x with
      paddle := if x.locating then .unlocated else if x.paddle.inMotion then .stopped else x.paddle
      locate := none, travel := none, stopping := none
      speed := if x.paddle.inMotion then 0 else x.speed
      blocked := false }
  let b := b.judgeWindow pub t
  let b := b.judgeSeal pub t
  b.discardOrder pub t

/-- The Boat Drive's response to a published change of its tube's hold level (R157). At 0 a paddle that goes STOPPING under a
stopping record has no order to go back to and stays STOPPING (DESIGN CHOICE, notes/assumptions/51.md); the blocked flag of
an order that becomes held stands as it is (DESIGN CHOICE, notes/assumptions/54.md). -/
def Bank.boatRespond (pub : Publisher) (t : Tube) (level : Nat) (b : Bank) : Bank :=
  let x := b.boat t
  if 7 ≤ level then b.stopAtOnce pub t
  else if 0 < level then
    if x.paddle = .moving ∧ x.locate.isNone then b.modBoat t fun x => { x with paddle := .stopping } else b
  else if x.paddle = .stopping then (if x.stopping.isSome then b else b.resumeMove pub t)
  else b.startOrder pub t

/-- The run end: an unfinished order is discarded, and a paddle moving under it goes STOPPING (R149). -/
def Bank.boatRunEnd (pub : Publisher) (t : Tube) (b : Bank) : Bank :=
  if (b.boat t).order.isNone then b
  else
    let moving := (b.boat t).travelling
    (b.modBoat t fun x => if moving then x.leaveBehind else x).discardOrder pub t

/-- The step that owns a STEP order is no longer the current step (R144, R149). -/
def Bank.orphanOrder (b : Bank) (t : Tube) : Bank :=
  b.modBoat t fun x => { x with order := x.order.map fun o => { o with current := false }, motionDone := false }

/-- ABORT RUN: an order whose paddle is in motion goes on, one that waits at rest is discarded (R22, R149). An order that
waits behind a stopping record while the paddle is STOPPING is kept and starts at the rest (DESIGN CHOICE,
notes/assumptions/52.md). -/
def Bank.boatAbort (pub : Publisher) (t : Tube) (b : Bank) : Bank :=
  let b := b.orphanOrder t
  if (b.boat t).order.isSome ∧ (b.boat t).travelling = false then b.discardOrder pub t else b

/-- START RUN discards a HOST order that waits (R144, R148). -/
def Bank.boatStartRun (pub : Publisher) (t : Tube) (b : Bank) : Bank :=
  match (b.boat t).order with
  | some o => if o.kind = .host then b.discardOrder pub t else b
  | none => b

end Sys2Proof.Machine
end

