-- ==== Sys2Proof/Machine/RampGenerator.lean ====
section
/-! DEFINITION. The Ramp Generator (chapter 3): accumulators and setpoints, the start, the advance and the stop of a
ramp, the guaranteed-ramp and lag tests, and stabilization. -/

namespace Sys2Proof.Machine

/-- An accumulator rounded half up to whole cdeg (R52). -/
def roundedSetpoint (a : Int) : Int := (a + 32768) / 65536

/-- The setpoint of a zone, sp (R52). -/
def Bank.setpoint (b : Bank) (t : Tube) (z : Zone) : Int := roundedSetpoint (b.ramp t).zones[z].accumulator

/-- The accumulator value of a target (R53). -/
def RampZone.goal (z : RampZone) : Int := z.target * 65536

/-- Is every zone's reached flag yes? -/
def Ramp.allReached (r : Ramp) : Bool := allZones.all fun z => r.zones[z].reached

/-- The zone maximum setpoint; 0 while CONFIGURE ZONES has not been accepted (R54). -/
def Bank.maxSetpoint (b : Bank) (t : Tube) (z : Zone) : Int :=
  match (b.tube t).zonesConfig with
  | none => 0
  | some c => c.zones[z].maxSetpoint

/-- The RAMP_LAG condition, if present, is cleared and the Hold Unit told (R67). -/
def Bank.clearLag (t : Tube) (b : Bank) : Bank :=
  if (b.ramp t).lag then (b.modRamp t fun r => { r with lag := false }).clear t .rampLag else b

/-- The lag timer is set to 0 and RAMP_LAG cleared (R55, R62, R63). -/
def Bank.settleLag (t : Tube) (b : Bank) : Bank := (b.modRamp t fun r => { r with lagTimer := 0 }).clearLag t

/-! ## Advancing (R56, R60 to R62) -/

/-- Is the advance of a ramp allowed (R60)? -/
def Bank.advanceAllowed (b : Bank) (t : Tube) : Bool :=
  match (b.run t).state with
  | .running => decide ((b.run t).phase = .active) && b.unheld t
  | .idle => b.unheld t
  | .safe => true
  | .unconfigured => false

/-- The jump of a rate-0 ramp: each zone that is not reached goes straight to its target (R56). -/
def RampZone.jump (z : RampZone) : RampZone :=
  if z.reached then z else { z with accumulator := z.goal, reached := true }

/-- The increment per control period, in 1/65536 cdeg (R61). -/
def rampIncrement (rate period : Nat) : Int := (((rate * period * 16 + 7) / 15 : Nat) : Int)

/-- A zone that is not reached moves toward its target, clamped at it (R62). -/
def RampZone.advance (z : RampZone) (inc : Int) : RampZone :=
  if z.reached then z
  else
    let a := if z.accumulator < z.goal then min (z.accumulator + inc) z.goal else max (z.accumulator - inc) z.goal
    { z with accumulator := a, reached := decide (a = z.goal) }

/-- The end of a ramp whose every zone is reached (R56, R62). -/
def Bank.endIfReached (t : Tube) (b : Bank) : Bank :=
  if (b.ramp t).allReached then (b.modRamp t fun r => { r with inProgress := false }).settleLag t else b

/-- The jump of R56, which ends the ramp. -/
def Bank.jumpRamp (t : Tube) (b : Bank) : Bank :=
  (b.modRamp t fun r => { r with zones := r.zones.map RampZone.jump }).endIfReached t

/-- The advance of R62 by one control period. -/
def Bank.advanceRamp (t : Tube) (period : Nat) (b : Bank) : Bank :=
  (b.modRamp t fun r => { r with zones := r.zones.map fun z => z.advance (rampIncrement r.rate period) }).endIfReached t

/-! ## Starting and stopping (R54, R55, R63) -/

/-- What starts a ramp: its kind, tube target, rate, offsets, band and lag limit (R57 to R59). -/
structure RampOrder where
  kind : RampKind
  target : Int
  rate : Nat
  offsets : Vector Int 3
  band : Int
  lagLimit : Nat
  deriving DecidableEq, Repr

/-- The value a zone's target is asked at: the tube target plus the zone's offset (R54). -/
def RampOrder.asked (o : RampOrder) (z : Zone) : Int := o.target + o.offsets[z]

/-- The zone's clamped target Z (R54). -/
def Bank.rampTarget (b : Bank) (t : Tube) (o : RampOrder) (z : Zone) : Int := clamp (o.asked z) 0 (b.maxSetpoint t z)

/-- TARGET_CLAMPED where the clamp changed the value, in zone order (R54). -/
def Bank.reportClamps (b : Bank) (t : Tube) (o : RampOrder) : Bank :=
  allZones.foldl (fun b z =>
    if b.rampTarget t o z = o.asked z then b
    else b.report (some t) .targetClamped (some (z.val + 1)) (some (o.asked z)) (some (b.rampTarget t o z))) b

/-- One zone at a ramp start: its start is the present accumulator, fraction included (R55 steps 2 and 3). -/
def RampZone.restart (z : RampZone) (target : Int) : RampZone :=
  { z with start := z.accumulator, target := target, reached := decide (z.accumulator = target * 65536) }

/-- The ramp record as a ramp start replaces it (R55 steps 1 to 3 and 5). -/
def Ramp.restart (r : Ramp) (o : RampOrder) (targets : Vector Int 3) : Ramp :=
  let r := { r with
    kind := o.kind, rate := o.rate, band := o.band, lagLimit := o.lagLimit
    zones := Vector.ofFn fun z => r.zones[z].restart targets[z] }
  { r with inProgress := !r.allReached }

/-- A ramp start (R55). -/
def Bank.startRamp (t : Tube) (o : RampOrder) (b : Bank) : Bank :=
  let targets : Vector Int 3 := Vector.ofFn fun z => b.rampTarget t o z
  let b := b.reportClamps t o
  let b := (b.modRamp t fun r => r.restart o targets).settleLag t
  if (b.ramp t).inProgress ∧ (b.ramp t).rate = 0 ∧ b.advanceAllowed t then b.jumpRamp t else b

/-- The ramp of a step's thermal part (R57); zones without offsets take the offset 0 (R1). -/
def stepRamp (q : ThermalPart) : RampOrder :=
  ⟨.step, q.target, q.rate, q.offsets.getD (Vector.replicate 3 0), q.band, q.lagLimit⟩

/-- The ramp of SET IDLE TEMPERATURE (R58). -/
def idleRamp (target : Int) (rate : Nat) : RampOrder := ⟨.idle, target, rate, Vector.replicate 3 0, 0, 0⟩

/-- The safe ramp, to the tube's safe temperature at its safe rate (R59). -/
def Bank.startSafeRamp (t : Tube) (b : Bank) : Bank :=
  match (b.tube t).zonesConfig with
  | none => b
  | some c => b.startRamp t ⟨.safe, c.safeTemp, c.safeRate, Vector.replicate 3 0, 0, 0⟩

/-- A ramp is stopped where it stands (R63). -/
def Bank.stopRamp (t : Tube) (b : Bank) : Bank := (b.modRamp t fun r => { r with inProgress := false }).settleLag t

/-- The stabilization timer is set to 0, and with it STABLE becomes false (R15, R71). -/
def Bank.resetStability (t : Tube) (b : Bank) : Bank := b.modRamp t fun r => { r with stabTimer := 0 }

/-! ## The tests at an expiry (R64 to R68) -/

/-- The guaranteed-ramp test: no zone with a GOOD control reading lies further than G from its setpoint (R64). -/
def Bank.guaranteePasses (b : Bank) (t : Tube) : Bool :=
  allZones.all fun z =>
    !((b.control t z).isGood && decide ((b.ramp t).band < (distance (b.control t z).value (b.setpoint t z) : Int)))

/-- A failing guaranteed-ramp test: the lag timer advances, and RAMP_LAG is raised at the lag limit (R65). -/
def Bank.failGuarantee (pub : Publisher) (t : Tube) (period : Nat) (b : Bank) : Bank :=
  let b := b.modRamp t fun r => { r with lagTimer := satAdd r.lagTimer period Config.clockMax }
  let r := b.ramp t
  if r.lagLimit ≠ 0 ∧ r.lagLimit * Config.ticksPerSecond ≤ r.lagTimer ∧ r.lag = false then
    (b.modRamp t fun r => { r with lag := true }).raise pub t .rampLag 4
  else b

/-- The ramp's part of an expiry: jump, guaranteed-ramp test and advance, or the lag test (R60, R62, R64, R66). -/
def Bank.rampAtExpiry (pub : Publisher) (t : Tube) (period : Nat) (b : Bank) : Bank :=
  let r := b.ramp t
  if r.inProgress = false then b
  else if b.advanceAllowed t then
    if r.rate = 0 then b.jumpRamp t
    else if 0 < r.band then
      if b.guaranteePasses t then (b.settleLag t).advanceRamp t period else b.failGuarantee pub t period
    else b.advanceRamp t period
  else if 0 < r.band ∧ b.guaranteePasses t then b.settleLag t
  else b

/-- Are all zones settled within S of their setpoints (R68)? -/
def Bank.settled (b : Bank) (t : Tube) (S : Int) : Bool :=
  (!(b.ramp t).inProgress || (b.ramp t).allReached)
    && allZones.all fun z =>
      (b.control t z).isGood && decide ((distance (b.control t z).value (b.setpoint t z) : Int) ≤ S)

/-- The judgement of the stabilization timer, which STABLE is read from (R68, R69). -/
def Bank.judgeStability (t : Tube) (period : Nat) (b : Bank) : Bank :=
  match (b.currentRecord t).bind (·.stability) with
  | none => b
  | some q =>
    if (b.run t).state = .running ∧ (b.run t).phase = .active ∧ b.unheld t then
      let timer := if b.settled t q.band then satAdd (b.ramp t).stabTimer period Config.clockMax else 0
      b.modRamp t fun r => { r with stabTimer := timer }
    else b

/-- The Ramp Generator at an expiry of its tube's control period (R60, R68). -/
def Bank.rampExpiry (pub : Publisher) (t : Tube) (b : Bank) : Bank :=
  match b.expiringPeriod t with
  | none => b
  | some period => (b.rampAtExpiry pub t period).judgeStability t period

end Sys2Proof.Machine
end

