-- ==== Sys2Proof/Machine/SupplyBudget.lean ====
section
/-! DEFINITION. The Supply Budget (chapter 6, R112 to R118) and the step's phase, which its grants change (R14 to R16). -/

namespace Sys2Proof.Machine

/-! ## A step becomes ACTIVE (R15, R16) -/

/-- STEP_ACTIVE with its marker: first entry or resumed (R15, R16, R192). -/
def Bank.reportStepActive (b : Bank) (t : Tube) (first : Bool) : Bank :=
  b.report (some t) .stepActive (slotDetail (b.run t).step) (some (flagDetail first))

/-- The step volume is set to 0, and the purge target handed on with it (R15 item 4, R130). -/
def Bank.startPurge (b : Bank) (t : Tube) (target : Option Nat) : Bank :=
  (b.modGas t fun g => { g with stepVolume := 0 }).modGate t fun g => { g with target := target, purgeDone := false }

/-- The parts of a step act at its first ACTIVE: ramp, stability, motion, purge, report (R15). -/
def Bank.firstActive (pub : Publisher) (t : Tube) (i : Slot) (r : StepRecord) (b : Bank) : Bank :=
  let b := match r.thermal with | some q => b.startRamp t (stepRamp q) | none => b
  let b := b.resetStability t
  let b := match r.motion with | some q => b.takeMotionPart pub t i q | none => b
  let b := b.startPurge t r.purge
  b.reportStepActive t true

/-- The Run Engine makes the phase ACTIVE: the first time since the step's entry as R15 states, otherwise as R16. -/
def Bank.becomeActive (pub : Publisher) (t : Tube) (b : Bank) : Bank :=
  let first := !(b.run t).activated
  let b := b.modRun t fun x => { x with phase := .active, activated := true }
  match first, (b.run t).step, b.currentRecord t with
  | true, some i, some r => b.firstActive pub t i r
  | _, _, _ => b.reportStepActive t false

/-! ## Queues and admission (R112, R113) -/

/-- The queue of a line, head first. -/
def Supply.queue (s : Supply) (l : Line) : List Tube := (s.waiters.filter fun w => w.lines.contains l).map (·.tube)

/-- Is the tube's request waiting? -/
def Supply.waits (s : Supply) (t : Tube) : Bool := s.waiters.any fun w => w.tube = t

/-- The waiting request of a tube. -/
def Supply.waiter (s : Supply) (t : Tube) : Option Waiter := s.waiters.find? fun w => w.tube = t

/-- The tube's present allocation on a line. -/
def Supply.allocated (s : Supply) (t : Tube) (l : Line) : Nat := s.alloc[t][l]

/-- The sum of the four tubes' allocations on a line. -/
def Supply.total (s : Supply) (l : Line) : Nat := sumTubes fun t => s.allocated t l

/-- The sum of the other tubes' allocations on a line. -/
def Supply.others (s : Supply) (t : Tube) (l : Line) : Nat := sumTubes fun u => if u = t then 0 else s.allocated u l

/-- Is the line's queue empty, or the tube at its head? -/
def Supply.clearAhead (s : Supply) (t : Tube) (l : Line) : Bool :=
  match s.queue l with
  | [] => true
  | u :: _ => u = t

/-- Does a line admit an amount for a tube (R113)? -/
def Supply.admits (s : Supply) (t : Tube) (v : Vector Nat 8) (l : Line) : Bool :=
  decide (v[l] ≤ s.allocated t l) || (s.clearAhead t l && decide (s.others t l + v[l] ≤ s.limits[l]))

/-- Does every line admit the vector? -/
def Supply.admitsAll (s : Supply) (t : Tube) (v : Vector Nat 8) : Bool := allLines.all (s.admits t v)

/-- Does a waiting tube stand at the head of every queue it is in (R116)? -/
def Supply.headsAll (s : Supply) (w : Waiter) : Bool := w.lines.all fun l => (s.queue l).head? = some w.tube

/-- A tube leaves every queue (R114 step 2, R117). -/
def Supply.leave (s : Supply) (t : Tube) : Supply := { s with waiters := s.waiters.filter fun w => w.tube ≠ t }

/-- A tube's allocations are set. -/
def Supply.setAlloc (s : Supply) (t : Tube) (v : Vector Nat 8) : Supply := { s with alloc := s.alloc.set t v }

def Bank.modSupply (b : Bank) (f : Supply → Supply) : Bank := { b with supply := f b.supply }

/-! ## Grants and waiting (R114, R115) -/

/-- R114 steps 1 to 5. -/
def Bank.grant (pub : Publisher) (t : Tube) (k : RequestKind) (flows : Vector Nat 6) (v : Vector Nat 8) (queued : Bool)
    (b : Bank) : Bank :=
  let b := b.modSupply fun s => (s.setAlloc t v).leave t
  let b := b.report (some t) .gasGranted (slotDetail (b.run t).step) (some k.code) (some (flagDetail queued))
  let b := (b.setRequested t flows).formEffective pub t
  if (b.run t).phase = .waitGas then b.becomeActive pub t else b

/-- The lines on which a tube's vector exceeds its allocation. -/
def Supply.wantedLines (s : Supply) (t : Tube) (v : Vector Nat 8) : List Line :=
  allLines.filter fun l => s.allocated t l < v[l]

/-- A waiting request joins the tail of the bank-wide order; a tube that already waits keeps its place and joins the
queues of the lines it was not in (R115). -/
def Supply.enqueue (s : Supply) (w : Waiter) : Supply :=
  if s.waits w.tube then
    { s with waiters := s.waiters.map fun x =>
        if x.tube = w.tube then { w with lines := x.lines ++ w.lines.filter fun l => !x.lines.contains l } else x }
  else { s with waiters := s.waiters ++ [w] }

/-- The shortfall GAS_WAIT reports on a line (R115). -/
def Supply.shortfall (s : Supply) (t : Tube) (v : Vector Nat 8) (l : Line) : Nat := s.others t l + v[l] - s.limits[l]

/-- A request that is not granted waits: queues, GAS_WAIT, and the fall of an ACTIVE phase to WAIT_GAS (R115, R16, R111). -/
def Bank.waitForGas (b : Bank) (t : Tube) (k : RequestKind) (flows : Vector Nat 6) (v : Vector Nat 8) : Bank :=
  let s := b.supply
  let first := allLines.find? fun l => !s.admits t v l
  let b := b.modSupply fun s => s.enqueue ⟨t, k, flows, v, s.wantedLines t v⟩
  let b := b.report (some t) .gasWait (slotDetail (b.run t).step) (first.map fun l => (l.val : Int))
    (first.map fun l => (s.shortfall t v l : Int))
  b.modRun t fun x => if x.phase = .active then { x with phase := .waitGas } else x

/-! ## Re-examination (R116) -/

/-- One waiting tube is tried: granted from the queue when it heads every queue it is in and every line admits it. -/
def Bank.tryWaiter (pub : Publisher) (t : Tube) (b : Bank) : Bank × Bool :=
  match b.supply.waiter t with
  | none => (b, false)
  | some w =>
    if b.supply.headsAll w && b.supply.admitsAll t w.vector then (b.grant pub t w.kind w.flows w.vector true, true)
    else (b, false)

/-- One pass over the waiting tubes, oldest first: the bank after it, and whether it granted any. -/
def Bank.waiterPass (pub : Publisher) : List Tube → Bank → Bank × Bool
  | [], b => (b, false)
  | t :: l, b =>
    let r := b.tryWaiter pub t
    let rest := Bank.waiterPass pub l r.1
    (rest.1, r.2 || rest.2)

/-- Passes until one grants nothing; each granting pass takes a tube out of the queues. -/
def Bank.passes (pub : Publisher) : Nat → Bank → Bank
  | 0, b => b
  | n + 1, b =>
    let r := b.waiterPass pub (b.supply.waiters.map (·.tube))
    if r.2 then Bank.passes pub n r.1 else r.1

/-- The Supply Budget re-examines its waiters (R116). -/
def Bank.reexamine (pub : Publisher) (b : Bank) : Bank := b.passes pub (b.supply.waiters.length + 1)

/-- A re-examination is called for within the event in hand (R116). -/
def Supply.callReexamination (s : Supply) : Supply := { s with due := true }

/-- The end of an event's own changes and reports: the waiters are re-examined where it called for that (R116). DEDUCED
(notes/assumptions/47.md): the event is the whole command. -/
def Bank.settle (pub : Publisher) (b : Bank) : Bank :=
  if b.supply.due then (b.reexamine pub).modSupply fun s => { s with due := false } else b

/-- Did an allocation of the tube fall, or did it leave a queue, from `s` to `s'` (R114 step 6, R116)? -/
def Supply.gaveBack (s s' : Supply) (t : Tube) : Bool :=
  (allLines.any fun l => decide (s'.allocated t l < s.allocated t l)) || (s.waits t && !s'.waits t)

/-! ## Requests (R111, R113) -/

/-- A request of a tube is decided: granted at once, calling for a re-examination where it gave something back, or left
waiting (R113, R114 item 6, R115). -/
def Bank.requestGas (pub : Publisher) (t : Tube) (k : RequestKind) (flows : Vector Nat 6) (b : Bank) : Bank :=
  let v := b.requestVector t flows
  if b.supply.admitsAll t v then
    let gave := b.supply.gaveBack ((b.supply.setAlloc t v).leave t) t
    let b := b.grant pub t k flows v false
    if gave then b.modSupply Supply.callReexamination else b
  else b.waitForGas t k flows v

/-- The flows a RENEWED request asks: the current step's gas part, or the present requested flows without one (R111). -/
def Bank.renewedFlows (b : Bank) (t : Tube) : Vector Nat 6 :=
  match (b.currentRecord t).bind (·.gas) with
  | none => b.requestedFlows t
  | some part => b.partFlows t part

/-- Is a RENEWED request called for at a fall of the hold level below 3 (R111)? -/
def Bank.renews (b : Bank) (t : Tube) : Bool :=
  decide ((b.run t).state = .running)
    && ((decide ((b.run t).phase = .active) && ((b.currentRecord t).bind (·.gas)).isSome)
      || (decide ((b.run t).phase = .waitGas) && !b.supply.waits t))

/-! ## Idle purge and cancellation (R109, R117, R121) -/

/-- The tube's requested flows and allocations are set to the idle purge (R109, R117). -/
def Bank.setIdlePurge (b : Bank) (t : Tube) : Bank :=
  let flows := b.idleFlows t
  let v := b.idleVector t
  (b.modSupply fun s => s.setAlloc t v).setRequested t flows

/-- A waiting request of the tube is cancelled, without a report (R117). -/
def Bank.cancelRequest (b : Bank) (t : Tube) : Bank := b.modSupply fun s => s.leave t

/-- The request is cancelled, the tube set to its idle purge and its effective setpoints formed; one re-examination of the
waiters is called for (R117). -/
def Bank.idlePurge (pub : Publisher) (t : Tube) (b : Bank) : Bank :=
  (((b.cancelRequest t).setIdlePurge t).formEffective pub t).modSupply Supply.callReexamination

/-- The Gas Channel Unit's response to a published change of its tube's hold level from `old` to `level` (R121). The
RENEWED request is not made where forming the setpoints has itself brought a newer level. -/
def Bank.gasRespond (pub : Publisher) (t : Tube) (old level : Nat) (b : Bank) : Bank :=
  if 5 ≤ level then b.idlePurge pub t
  else
    let b := b.formEffective pub t
    if level < 3 ∧ 3 ≤ old ∧ b.level t = level ∧ b.renews t then b.requestGas pub t .renewed (b.renewedFlows t) else b

end Sys2Proof.Machine
end

