-- ==== Sys2Proof/Machine/Publish.lean ====
section
/-! DEFINITION. The publication of a hold level and the responses to it (R48, R25): the Run Engine, the Ramp Generator,
the Gas Channel Unit, the Purge and Gate Unit and the Boat Drive of the tube, in the order R48 names them (DESIGN CHOICE,
notes/assumptions/4.md). -/

namespace Sys2Proof.Machine

/-! ## SAFE entry (R25, R59) -/

/-- The STEP_TIME condition, if present, is cleared and the Hold Unit told (R18). -/
def Bank.clearStepTime (t : Tube) (b : Bank) : Bank :=
  if (b.run t).stepTime then (b.modRun t fun x => { x with stepTime := false }).clear t .stepTime else b

/-- The HOST_ABORT condition, if present, is cleared and the Hold Unit told (R24, R25). -/
def Bank.clearHostAbort (t : Tube) (b : Bank) : Bank :=
  if (b.run t).hostAbort then (b.modRun t fun x => { x with hostAbort := false }).clear t .hostAbort else b

/-- The run, if one is in progress, is ended with outcome SAFED (R25 items 1 to 5); its step is no longer the current step,
so that MOTION_DONE is false (R149). -/
def Bank.endRunSafed (t : Tube) (b : Bank) : Bank :=
  if (b.run t).state = .running then
    let b := (((b.cancelRequest t).clearStepTime t).clearHostAbort t).orphanOrder t
    b.modRun t fun x => { x with outcome := .safed, phase := .none, abortPath := false }
  else b

/-- The source of the top frame. -/
def HoldUnit.topSource (h : HoldUnit) : Option Source := h.stack.head?.map (·.source)

/-- SAFE entry: the run ended, the state SAFE, SAFE_ENTERED, no purge target, the safe ramp (R25, R10, R59, R130). -/
def Bank.enterSafe (t : Tube) (b : Bank) : Bank :=
  let left := (b.run t).state
  let step := if left = .running then (b.run t).step else none
  let b := b.endRunSafed t
  let b := b.modRun t fun x => { x with state := .safe }
  let b := b.report (some t) .safeEntered ((b.hold t).topSource.map fun s => (s.code : Int)) (some left.code)
    (slotDetail step)
  let b := b.modGate t fun g => { g with target := none, purgeDone := false }
  b.startSafeRamp t

/-- The Run Engine and the Ramp Generator at a published level: 7 brings SAFE entry to an IDLE or RUNNING tube (R25). -/
def Bank.runRespond (t : Tube) (level : Nat) (b : Bank) : Bank :=
  if 7 ≤ level ∧ ((b.run t).state = .idle ∨ (b.run t).state = .running) then b.enterSafe t else b

/-- The Purge and Gate Unit at a published level: an open gate closes at 3 or more, without a loss (R136, R138). -/
def Bank.gateRespond (pub : Publisher) (t : Tube) (level : Nat) (b : Bank) : Bank :=
  if 3 ≤ level ∧ (b.gate t).isOpen then b.closeGate pub t .hold none false else b

/-! ## Publication (R48) -/

/-- Does a response while `level` is still the level last published. A response may itself bring a newer publication,
which has then reached every responder (notes/assumptions/4.md). -/
def Bank.whileAt (t : Tube) (level : Nat) (f : Bank → Bank) (b : Bank) : Bank := if b.level t = level then f b else b

/-- The hold level is published when it differs from the level last published, and each responder responds (R48). -/
def Bank.publishWith (pub : Publisher) (t : Tube) (b : Bank) : Bank :=
  let level := (b.hold t).level
  let old := b.level t
  if level = old then b
  else
    let b := b.modHold t fun h => { h with published := level }
    let b := b.runRespond t level
    let b := b.whileAt t level (Bank.gasRespond pub t old level)
    let b := b.whileAt t level (Bank.gateRespond pub t level)
    b.whileAt t level (Bank.boatRespond pub t level)

/-- Publication, with the publications that its responses bring nested in it. -/
def publishDown : Nat → Publisher
  | 0 => fun t b => b.modHold t fun h => { h with published := h.level }
  | n + 1 => fun t b => b.publishWith (publishDown n) t

/-- The publication of a hold level, as every block's command calls it. -/
def publish : Publisher := publishDown Config.publishDepth

end Sys2Proof.Machine
end

