-- ==== Sys2Proof/WellFormed.lean ====
section
/-! DEFINITION. Which commands the FB-412's surroundings can give: a frame's payload fits its length character, an
unknown kind is none of the request kinds, a mark number stands on a rail, a flow return is a proportion. `exec` does
not ask this: it gives every command, well formed or not, the effect the rules give it. -/

namespace Sys2Proof

/-- The payload of a frame whose length character is at most 250 (11.1). -/
def payloadFits (payload : List Byte) : Bool := payload.length ≤ Config.payloadMax

/-- The request kinds are 0x01..0x1B (R188). -/
def isRequestKind (kind : Byte) : Bool := 1 ≤ kind.toNat && kind.toNat ≤ 0x1B

/-- The length characters R173 discards. -/
def lengthInvalid (n : Byte) : Bool := n.toNat < 2 || 250 < n.toNat

/-- A temperature that the three characters of a last result can carry, 0x800000 standing for none (R187). -/
def temperatureFits (x : Int) : Bool := -8388607 ≤ x && x ≤ 8388607

/-- A flow return is a proportion of something. -/
def FlowReturn.proper (x : FlowReturn) : Bool := x.whole ≠ 0

/-- The checks on a command's own operands. -/
def Instr.wellFormed : Instr → Bool
  | .powerUp => true
  | .loadSteps _ p => payloadFits p
  | .clearSteps _ p => payloadFits p
  | .readSteps _ p => payloadFits p
  | .startRun _ p => payloadFits p
  | .abortRun _ p => payloadFits p
  | .resetTube _ p => payloadFits p
  | .hold _ p => payloadFits p
  | .release _ p => payloadFits p
  | .setIdleTemperature _ p => payloadFits p
  | .configureZones _ p => payloadFits p
  | .setPowerLimit _ p => payloadFits p
  | .readReadings _ p => payloadFits p
  | .configureChannels _ p => payloadFits p
  | .setGasMap _ p => payloadFits p
  | .setSupplyLimit _ p => payloadFits p
  | .setGateLimits _ p => payloadFits p
  | .configureRail _ p => payloadFits p
  | .locateBoat _ p => payloadFits p
  | .moveBoat _ p => payloadFits p
  | .clearMotionFault _ p => payloadFits p
  | .setSpeedTable _ p => payloadFits p
  | .setActionTable _ p => payloadFits p
  | .setReportLevel _ p => payloadFits p
  | .readBank _ p => payloadFits p
  | .restartBank _ p => payloadFits p
  | .readTube _ p => payloadFits p
  | .readInterlocks _ p => payloadFits p
  | .unknownKind kind _ p => payloadFits p && !isRequestKind kind
  | .crcError => true
  | .invalidFrameLength n => lengthInvalid n
  | .receiveGap => true
  | .framingError => true
  | .transmitComplete => true
  | .runEngineExpiry _ => true
  | .rampExpiry _ => true
  | .zoneLoopExpiry _ => true
  | .gasSample _ v => v.toList.all FlowReturn.proper
  | .tcConversion none => true
  | .tcConversion (some x) => temperatureFits x
  | .interlockInputChange _ _ _ => true
  | .interlockInputTaken _ _ => true
  | .sealSensorChange _ _ => true
  | .sealSensorTaken _ => true
  | .paddleStep _ => true
  | .markRead _ k => k ≤ Config.markLast
  | .characterTaken _ => true
  | .bankTick => true

end Sys2Proof
end

