-- ==== Sys2Proof/Machine/Link.lean ====
section
/-! DEFINITION. The Link Controller (chapter 10): the CRC, frames, the two transmit queues, the transmitter, and what
a decision gives (R172 to R181). -/

namespace Sys2Proof.Machine

/-! ## The CRC (R174) -/

/-- One bit of the register: a shift to the left, with the polynomial 0x1021 where a 1 leaves. -/
def crcShift (c : BitVec 16) : BitVec 16 := if c.msb then (c <<< 1) ^^^ 0x1021 else c <<< 1

/-- Eight shifts. -/
def crcShift8 (c : BitVec 16) : BitVec 16 :=
  crcShift (crcShift (crcShift (crcShift (crcShift (crcShift (crcShift (crcShift c)))))))

/-- One character enters the register, most significant bit first. -/
def crcStep (c : BitVec 16) (x : Byte) : BitVec 16 := crcShift8 (c ^^^ (x.setWidth 16 <<< 8))

/-- The register after some characters, from the start value 0xFFFF. -/
def crc16 (l : List Byte) : BitVec 16 := l.foldl crcStep 0xFFFF

/-- The two CRC characters, high byte first. -/
def crcChars (c : BitVec 16) : List Byte := [c.extractLsb' 8 8, c.extractLsb' 0 8]

/-- The 16-bit value two CRC characters stand for. -/
def crcValue (first second : Byte) : BitVec 16 := (first.setWidth 16 <<< 8) ||| second.setWidth 16

/-- All characters of a frame with a kind, a tag and a payload (11.1, R173). -/
def frameChars (kind tag : Byte) (payload : List Byte) : List Byte :=
  let body := BitVec.ofNat 8 (payload.length + 2) :: kind :: tag :: payload
  0x5A :: body ++ crcChars (crc16 body)

/-! ## The transmit side (R177 to R181) -/

/-- The payload of a report frame: the report record in 20 characters (R192). -/
def Report.payload (r : Report) : List Byte :=
  leBytes 4 r.clock.toNat ++ leBytes 1 (match r.tube with | none => 0 | some t => t.val + 1) ++ leBytes 1 r.kind.code
    ++ leBytes 1 r.level
    ++ leBytes 1 ((if r.detail1.isSome then 1 else 0) + (if r.detail2.isSome then 2 else 0)
        + (if r.detail3.isSome then 4 else 0))
    ++ leBytes 4 (r.detail1.getD 0) ++ leBytes 4 (r.detail2.getD 0) ++ leBytes 4 (r.detail3.getD 0)

/-- The first member of a list for which `p` holds is taken out; every other keeps its order. -/
def removeFirst {α : Type} (p : α → Bool) : List α → List α
  | [] => []
  | x :: l => if p x then l else x :: removeFirst p l

/-- A report below level 7. -/
def Report.lesser (r : Report) : Bool := decide (r.level < 7)

/-- A report offered to the report queue is appended, displaces the oldest lesser one, or is lost (R180). -/
def Link.queueReport (l : Link) (r : Report) : Link :=
  if l.reports.length < Config.reportPlaces then { l with reports := l.reports ++ [r] }
  else if 7 ≤ r.level ∧ l.reports.any Report.lesser then
    { l with reports := removeFirst Report.lesser l.reports ++ [r], lost := satAdd l.lost 1 Config.countMax }
  else { l with lost := satAdd l.lost 1 Config.countMax }

/-- The REPORTS_LOST report (R181). -/
def lostReport (clock : BitVec 32) (lost : Nat) : Report := ⟨clock, none, .reportsLost, 7, some lost, none, none⟩

/-- After a report has left the queue: losses are announced when two places are free (R181). -/
def Link.announceLost (l : Link) (clock : BitVec 32) : Link :=
  if 0 < l.lost ∧ l.reports.length ≤ Config.lostAnnounceFill then
    { l.queueReport (lostReport clock l.lost) with lost := 0 }
  else l

/-- An idle transmitter starts the oldest reply, or else the oldest report (R177). -/
def Link.startNext (l : Link) (clock : BitVec 32) : Link :=
  match l.sending, l.replies, l.reports with
  | some _, _, _ => l
  | none, r :: rest, _ => { l with replies := rest, sending := some (frameChars r.kind r.tag r.payload) }
  | none, [], r :: rest =>
    { l with reports := rest
             sending := some (frameChars 0x80 l.sequence r.payload)
             sequence := l.sequence + 1 }.announceLost clock
  | none, [], [] => l

/-- A created report is offered to the queue when its level is at or above the report level, and dropped otherwise
(R178); an idle transmitter then starts it (R177). -/
def Link.offer (clock : BitVec 32) (l : Link) (r : Report) : Link :=
  if r.level < l.reportLevel then l else (l.queueReport r).startNext clock

/-- The end of an event: the reports created in it are offered in creation order (R178). -/
def Bank.endEvent (b : Bank) : Bank :=
  { b with link := b.outbox.foldl (Link.offer b.clock) b.link, outbox := [] }

/-- A reply is placed at the tail of the reply queue, and an idle transmitter starts it (R176, R177). -/
def Bank.placeReply (b : Bank) (kind tag : Byte) (payload : List Byte) : Bank :=
  { b with link := { b.link with replies := b.link.replies ++ [(⟨kind, tag, payload⟩ : Reply)] }.startNext b.clock }

/-! ## Taking a request (R175, R176) -/

/-- What an owner's decision gives: the bank after it, and the payload of the reply. -/
abbrev Decision := Bank × List Byte

/-- A refusal carries its status alone and changes nothing. -/
def Bank.refuse (b : Bank) (s : Status) : Decision := (b, leBytes 1 s.code)

/-- A request carried out: status OK and what the deciding rule adds. -/
def Bank.answer (b : Bank) (items : List Byte := []) : Decision := (b, leBytes 1 Status.ok.code ++ items)

/-- The receiver has just completed a frame: it stands in HUNT (R173, R185). -/
def Bank.hunting (b : Bank) : Bank := { b with link := { b.link with receiver := .hunt } }

/-- Is the reply queue full (R175)? -/
def Bank.repliesFull (b : Bank) : Bool := decide (Config.replyPlaces ≤ b.link.replies.length)

/-- A good frame that found the reply queue full is not processed and is counted (R175). -/
def Bank.discard (b : Bank) : Bank :=
  { b with link := { b.link with discards := satAdd b.link.discards 1 Config.countMax } }

end Sys2Proof.Machine
end

