-- ==== Sys2Proof/Machine/ZoneLoop.lean ====
section
/-! DEFINITION. The Zone Loops and the Power Share (chapter 4): the PI computation, overtemperature, demand, grant and
delivered outputs, and the two requests of the heat path that write them. -/

namespace Sys2Proof.Machine

/-! ## The PI computation (R77 to R80) -/

/-- The error of a zone (R77 step 1). -/
def loopError (sp pv : Int) : Int := clamp (sp - pv) (-32768) 32767

/-- The proportional term (R77 step 2); Lean's division by a positive number is the floor. -/
def loopPterm (kp : Nat) (e : Int) : Int := kp * e / 256

/-- The integral as it would be, Q' (R77 step 3). -/
def ZoneLoop.proposed (l : ZoneLoop) (ki : Nat) (e : Int) : Int := l.integral + ki * e

/-- The integral as step 5 of R77 leaves it. -/
def ZoneLoop.nextIntegral (l : ZoneLoop) (k : ZoneConfig) (e : Int) : Nat :=
  let proposed := l.proposed k.ki e
  let raw := loopPterm k.kp e + proposed / 65536
  if (65535 < raw ∧ 0 < e) ∨ (raw < 0 ∧ e < 0) then l.integral else (clamp proposed 0 Config.integralMax).toNat

/-- The output of step 6 of R77. -/
def loopOutput (k : ZoneConfig) (e : Int) (integral : Nat) : Nat :=
  (clamp (loopPterm k.kp e + (integral : Int) / 65536) 0 k.maxOutput).toNat

/-- A computation of a zone (R77). -/
def ZoneLoop.compute (l : ZoneLoop) (k : ZoneConfig) (sp pv : Int) : ZoneLoop :=
  let e := loopError sp pv
  let q := l.nextIntegral k e
  { l with integral := q, output := loopOutput k e q, frozen := false }

/-- One zone at an expiry: forced off, computing or frozen (R77, R79, R80). -/
def ZoneLoop.expire (l : ZoneLoop) (k : ZoneConfig) (sp : Int) (r : ChannelRecord) : ZoneLoop :=
  if l.forcedOff then { l with output := 0, integral := 0 }
  else if r.isGood then l.compute k sp r.value
  else { l with frozen := true }

/-! ## Overtemperature (R80 to R82) -/

/-- A zone is in overtemperature trouble while either flag is set (R81). -/
def ZoneLoop.trouble (l : ZoneLoop) : Bool := l.overtemp || l.failed

/-- The flags of a zone judged against its limit and its overtemperature channel's record; `reached` says that the channel
has failed, as the judging event sees it (R81). -/
def ZoneLoop.judgeFlags (l : ZoneLoop) (limit : Int) (r : ChannelRecord) (reached : Bool) : ZoneLoop :=
  if r.isGood then
    { l with
      overtemp := if limit < r.value then true else if r.value ≤ limit - Config.overtempBand then false else l.overtemp
      failed := false }
  else { l with failed := l.failed || reached }

/-- A zone that enters trouble is forced off at once: u, Q and its delivered output become 0 (R80, R82). -/
def ZoneLoop.judge (l : ZoneLoop) (limit : Int) (r : ChannelRecord) (reached : Bool) : ZoneLoop :=
  let l' := l.judgeFlags limit r reached
  if l'.trouble && !l.trouble then { l' with forcedOff := true, output := 0, integral := 0, delivered := 0 } else l'

/-- The OVERTEMP condition of a tube (R82). -/
def Bank.overtempPresent (b : Bank) (t : Tube) : Bool := allZones.any fun z => (b.loops t)[z].trouble

/-- Zones judge their flags, and the OVERTEMP condition follows: raised at 7 or cleared at a change (R82). -/
def Bank.judgeOvertemp (pub : Publisher) (t : Tube) (f : Vector ZoneLoop 3 → Vector ZoneLoop 3) (b : Bank) : Bank :=
  let was := b.overtempPresent t
  let b := b.modLoops t f
  let now := b.overtempPresent t
  if now && !was then b.raise pub t .overtemp 7 else if was && !now then b.clear t .overtemp else b

/-! ## Demand, grant and delivered output (R83 to R87) -/

/-- A zone's demand (R83). -/
def zoneDemand (output rating : Nat) : Nat := output * rating / Config.outputMax

/-- A tube's demand (R83). -/
def tubeDemand (loops : Vector ZoneLoop 3) (c : ZonesConfig) : Nat :=
  sumZones fun z => zoneDemand loops[z].output c.zones[z].rating

/-- The sum of the other tubes' latest demands, O (R84). -/
def Bank.otherDemands (b : Bank) (t : Tube) : Nat := sumTubes fun u => if u = t then 0 else (b.share u).demand

/-- The sum of the other tubes' grants (R84). -/
def Bank.otherGrants (b : Bank) (t : Tube) : Nat := sumTubes fun u => if u = t then 0 else (b.share u).grant

/-- The sum of the four tubes' grants. -/
def Bank.totalGrant (b : Bank) : Nat := sumTubes fun u => (b.share u).grant

/-- The fair share of a demand (R84). -/
def fairShare (limit demand others : Nat) : Nat :=
  if demand + others ≤ limit then demand else demand * limit / (demand + others)

/-- The grant of a demand (R84). -/
def Bank.powerGrant (b : Bank) (t : Tube) (demand : Nat) : Nat :=
  min demand (min (fairShare b.powerLimit demand (b.otherDemands t)) (b.powerLimit - b.otherGrants t))

/-- The delivered output of a zone (R85). -/
def deliveredOutput (output grant demand : Nat) : Nat := if demand = 0 then 0 else output * grant / demand

/-- The limited state is judged; a change is reported (R87). -/
def Bank.judgeLimited (t : Tube) (b : Bank) : Bank :=
  let s := b.share t
  let now := decide (s.grant < s.demand)
  if now = s.limited then b
  else
    (b.modShare t fun s => { s with limited := now }).report (some t) .powerLimited (some s.demand) (some s.grant)
      (some (flagDetail now))

/-- The Power Share's part of a loop completion: demand, grant, delivered outputs, limited state (R83 to R87). -/
def Bank.shareCompletion (t : Tube) (c : ZonesConfig) (b : Bank) : Bank :=
  let demand := tubeDemand (b.loops t) c
  let grant := b.powerGrant t demand
  let b := b.modShare t fun s => { s with demand := demand, grant := grant }
  let b := b.modLoops t fun v => v.map fun l => { l with delivered := deliveredOutput l.output grant demand }
  b.judgeLimited t

/-- An expiry of the tube's control period at its three Zone Loops, and its loop completion (R77 to R85). -/
def Bank.zoneLoopExpiry (t : Tube) (b : Bank) : Bank :=
  match (b.tube t).zonesConfig with
  | none => b
  | some c =>
    let b := b.modLoops t fun v => Vector.ofFn fun z => v[z].expire c.zones[z] (b.setpoint t z) (b.control t z)
    b.shareCompletion t c

/-! ## SET POWER LIMIT (R86) -/

/-- A quantity cut in the proportion of the new limit to the sum of the grants (R86). -/
def cutTo (x limit total : Nat) : Nat := x * limit / total

/-- The cut of every grant and every delivered output (R86). -/
def Bank.cutGrants (b : Bank) (limit : Nat) : Bank :=
  let total := b.totalGrant
  b.eachTube fun t b =>
    (b.modShare t fun s => { s with grant := cutTo s.grant limit total }).modLoops t fun v =>
      v.map fun l => { l with delivered := cutTo l.delivered limit total }

/-- The Power Share's decision of SET POWER LIMIT (R86). Two characters carry no value outside 0..65535. -/
def Bank.setPowerLimit (p : List Byte) (b : Bank) : Decision :=
  let limit := u16 p 0
  let b' := { b with powerLimit := limit }
  if limit < b.totalGrant then ((b'.cutGrants limit).eachTube Bank.judgeLimited).answer else b'.answer

/-! ## The fields of CONFIGURE ZONES (R74, R188) -/

/-- The zone record at an offset of the payload. -/
def readZone (p : List Byte) (i : Nat) : ZoneConfig where
  maxSetpoint := s24 p i
  kp := u16 p (i + 3)
  ki := u16 p (i + 5)
  maxOutput := u16 p (i + 7)
  rating := u16 p (i + 9)
  overtempLimit := s24 p (i + 11)

/-- The fields of CONFIGURE ZONES. -/
def readZones (p : List Byte) : ZonesConfig where
  period := u16 p 1
  safeTemp := s24 p 3
  safeRate := u16 p 6
  zones := Vector.ofFn fun z => readZone p (8 + 14 * z.val)

/-- The ranges of a zone record, and a maximum setpoint below the overtemperature limit (R74). -/
def ZoneConfig.legal (k : ZoneConfig) : Bool :=
  within k.maxSetpoint 0 140000 && decide (k.rating ≤ 6553) && within k.overtempLimit 1000 150000
    && decide (k.maxSetpoint < k.overtempLimit)

/-- The ranges of CONFIGURE ZONES (R74). -/
def ZonesConfig.legal (c : ZonesConfig) : Bool :=
  [256, 512, 1024, 2048].contains c.period && within c.safeTemp 0 140000 && decide (c.safeRate ≤ 3000)
    && allZones.all fun z => c.zones[z].legal

/-- A zone whose output exceeds its new maximum is lowered to it, and its delivered output with it (R75 item 1). -/
def ZoneLoop.lowerTo (l : ZoneLoop) (top : Nat) : ZoneLoop :=
  if top < l.output then { l with output := top, delivered := min l.delivered top } else l

/-- Items 1 and 2 of R75: outputs lowered, overtemperature judged afresh from the records as they stand. -/
def Bank.applyZones (pub : Publisher) (t : Tube) (c : ZonesConfig) (b : Bank) : Bank :=
  let b := b.modLoops t fun v => Vector.ofFn fun z => v[z].lowerTo c.zones[z].maxOutput
  b.judgeOvertemp pub t fun v => Vector.ofFn fun z =>
    v[z].judge c.zones[z].overtempLimit (b.overtemp t z) (decide ((b.overtemp t z).bad = Config.badCountMax))

/-- RESET TUBE in each Zone Loop: the forced-off flag cleared and Q set to 0 (R88). -/
def ZoneLoop.resetTube (l : ZoneLoop) : ZoneLoop := { l with forcedOff := false, integral := 0 }

end Sys2Proof.Machine
end

