-- ==== Sys2Proof/Machine/Scanner.lean ====
section
/-! DEFINITION. The Thermocouple Scanner (chapter 5): classification, the channel records, TC, and the hand-on of completed
conversions. -/

namespace Sys2Proof.Machine

/-! ## Channels (R91) -/

/-- Where a channel belongs: its tube, its zone, and whether it is the overtemperature channel; none for the reference. -/
def channelOwner (c : TcChannel) : Option (Tube × Zone × Bool) :=
  if h : c.val = 0 then none
  else some (⟨(c.val - 1) / 6, by omega⟩, ⟨(c.val - 1) % 6 / 2, by omega⟩, decide ((c.val - 1) % 2 = 1))

/-! ## Classification and records (R94 to R96) -/

/-- The range a channel's temperature is GOOD in (R94). -/
def goodRange (c : TcChannel) : Int × Int := if c = 0 then (-2000, 8000) else (-5000, 150000)

/-- The compensated temperature of a thermocouple channel: formed from its junction voltage and the value of channel 0 as it
stands at the completion (R94). The voltage is given as the temperature of a junction that has it against a reference at 0,
so that it is that temperature where the reference value is 0; at every other reference the temperature is a free value
(DESIGN CHOICE, notes/assumptions/14.md). -/
def Scanner.compensated (s : Scanner) (c : TcChannel) (voltage : Int) : Int :=
  let reference := s.records[(0 : TcChannel)].value
  if reference = 0 then voltage else ((Config.compensation c voltage reference).val : Int) - 8388607

/-- The temperature of a conversion that met no open circuit: channel 0's sensor gives its own (R91), and every other channel
is compensated. -/
def Scanner.temperature (s : Scanner) (c : TcChannel) (measured : Int) : Int :=
  if c = 0 then measured else s.compensated c measured

/-- The class of a conversion and its last result (R94). -/
def Scanner.classify (s : Scanner) (c : TcChannel) (input : Option Int) : ChannelStatus × Option Int :=
  if c ≠ 0 ∧ s.records[(0 : TcChannel)].status ≠ .good then (.refFault, none)
  else
    match input with
    | none => (.opened, none)
    | some x =>
      let temperature := s.temperature c x
      if within temperature (goodRange c).1 (goodRange c).2 then (.good, some temperature) else (.range, some temperature)

/-- A channel record after a conversion of a class with a last result (R95, R96). -/
def ChannelRecord.converted (r : ChannelRecord) (status : ChannelStatus) (last : Option Int) : ChannelRecord :=
  if status = .good then { r with value := last.getD r.value, status := status, bad := 0, last := last }
  else { r with status := status, bad := satAdd r.bad 1 Config.badCountMax, last := last }

/-- TC_RECOVERED or TC_BAD where the bad count calls for one (R95, R96, R97). -/
def Bank.reportConversion (b : Bank) (c : TcChannel) (old new : ChannelRecord) : Bank :=
  let tube := (channelOwner c).map (·.1)
  if new.isGood then
    if 0 < old.bad then b.report tube .tcRecovered (some c.val) (some new.value) (some old.bad) else b
  else if old.bad = 0 then b.report tube .tcBad (some c.val) (some new.status.code) (some new.value)
  else b

/-! ## TC (R99) -/

/-- Is the tube configured for R99? -/
def Bank.tcConfigured (b : Bank) (t : Tube) : Bool := decide ((b.run t).state ≠ .unconfigured)

def Bank.modScanner (b : Bank) (f : Scanner → Scanner) : Bank := { b with scanner := f b.scanner }

/-- The TC condition of a tube as the scanner keeps it. -/
def Bank.tcPresent (b : Bank) (t : Tube) : Bool := b.scanner.tc[t]

/-- The TC condition is set present and TC raised at level 5. -/
def Bank.raiseTc (pub : Publisher) (t : Tube) (b : Bank) : Bank :=
  (b.modScanner fun s => { s with tc := s.tc.set t true }).raise pub t .tc 5

/-- The TC condition is cleared and the Hold Unit told. -/
def Bank.clearTc (t : Tube) (b : Bank) : Bank := (b.modScanner fun s => { s with tc := s.tc.set t false }).clear t .tc

/-- TC after a conversion of a control channel; `reached` says that its bad count has just become 4 (R99). -/
def Bank.judgeTc (pub : Publisher) (t : Tube) (good reached : Bool) (b : Bank) : Bank :=
  if b.tcConfigured t = false then b
  else if reached && !b.tcPresent t then b.raiseTc pub t
  else if good && b.tcPresent t && allZones.all (fun z => (b.control t z).isGood) then b.clearTc t
  else b

/-- TC when the tube becomes configured (R99). -/
def Bank.judgeTcConfigured (pub : Publisher) (t : Tube) (b : Bank) : Bank :=
  if allZones.any fun z => decide ((b.control t z).bad = Config.badCountMax) then b.raiseTc pub t else b

/-! ## A completed conversion (R94, R98, R100) -/

/-- The hand-on of a control channel: TC, then the Boat Drive of the tube (R98, R99). -/
def Bank.handControl (pub : Publisher) (t : Tube) (good reached : Bool) (b : Bank) : Bank :=
  (b.judgeTc pub t good reached).newControlReading pub t

/-- The hand-on of an overtemperature channel to the Zone Loop of its zone, once CONFIGURE ZONES has been accepted (R81,
R100). -/
def Bank.handOvertemp (pub : Publisher) (t : Tube) (z : Zone) (reached : Bool) (b : Bank) : Bank :=
  match (b.tube t).zonesConfig with
  | none => b
  | some c =>
    b.judgeOvertemp pub t fun v => v.set z (v[z].judge c.zones[z].overtempLimit (b.overtemp t z) reached)

/-- The conversion in progress completes, none at its input for an open circuit, and the next channel's begins (R92, R94). -/
def Bank.tcConversion (pub : Publisher) (input : Option Int) (b : Bank) : Bank :=
  let c := b.scanner.position
  let old := b.scanner.records[c]
  let found := b.scanner.classify c input
  let new := old.converted found.1 found.2
  let b := b.modScanner fun s => { s with records := s.records.set c new, position := c + 1 }
  let b := b.reportConversion c old new
  let reached := decide (old.bad < Config.badCountMax) && decide (new.bad = Config.badCountMax)
  match channelOwner c with
  | none => b
  | some (t, _, false) => b.handControl pub t new.isGood reached
  | some (t, z, true) => b.handOvertemp pub t z reached

end Sys2Proof.Machine
end

