-- ==== Sys2Proof/Machine/RunEngine.lean ====
section
/-! DEFINITION. The Run Engine (chapter 1) and the host's requests of the Hold Unit and of the Ramp Generator: step entry,
clocks, completion, leaving a step, run end, abort, RESET TUBE, and the end of a tube's configuration. -/

namespace Sys2Proof.Machine

/-! ## The record checks (R2) -/

/-- The ranges of a thermal part (R1). -/
def ThermalPart.legal (q : ThermalPart) : Bool :=
  within q.target 0 140000 && decide (q.rate ≤ 3000) && within q.band 0 5000 && decide (q.lagLimit ≤ 3600)
    && q.offsets.all fun o => allZones.all fun z => within o[z] (-5000) 5000

/-- The ranges of a stability part (R1). -/
def StabilityPart.legal (q : StabilityPart) : Bool := within q.band 10 5000 && within q.time 1 3600

/-- The ranges of a gas part: at most six entries, no channel twice (R1, R2). -/
def gasPartLegal (l : List GasEntry) : Bool :=
  decide (l.length ≤ 6) && l.all (fun e => within e.channel 1 6 && decide (e.flow ≤ 30000))
    && decide (l.map (·.channel)).Nodup

/-- The ranges of a motion part (R1). -/
def MotionPart.legal (q : MotionPart) : Bool := decide (q.target ≤ 25000) && within q.speed 1 600

/-- The ranges of a repeat part in the slot it is stored into (R1, R2). -/
def RepeatPart.legal (q : RepeatPart) (slot : Nat) : Bool := decide (q.toIndex ≤ slot) && within q.count 1 255

/-- The checks of R2 on a record for a slot. -/
def StepRecord.legal (r : StepRecord) (slot : Nat) : Bool :=
  decide (r.duration ≤ 86400) && decide (r.maxTime ≤ 172800) && (decide (r.maxTime = 0) || decide (r.duration ≤ r.maxTime))
    && r.thermal.all ThermalPart.legal && r.stability.all StabilityPart.legal && r.gas.all gasPartLegal
    && r.purge.all (fun v => within v 1 2000000000) && r.motion.all MotionPart.legal
    && r.repetition.all fun q => q.legal slot

/-! ## The step list (R4 to R9) -/

/-- Is a slot locked (R5)? -/
def RunEngine.locked (x : RunEngine) (i : Slot) : Bool :=
  decide (x.state = .running) && x.highWater.any fun h => decide (i ≤ h)

/-- A record is stored: its loop counter becomes its count (R7). -/
def RunEngine.store (x : RunEngine) (i : Slot) (r : StepRecord) : RunEngine :=
  { x with slots := x.slots.set i (some ⟨r, (r.repetition.map (·.count)).getD 0⟩) }

/-- The records stored into slots from `slot` upward: the engine after it, how many were stored, and the reason code of the
stopping record if one stopped (R6). -/
def storeRecords : List ParsedRecord → Nat → RunEngine → RunEngine × Nat × Option Status
  | [], _, x => (x, 0, none)
  | r :: l, slot, x =>
    match asFin 64 slot with
    | none => (x, 0, some .badField)
    | some i =>
      if r.orphanOffsets ∨ r.record.legal slot = false then (x, 0, some .badField)
      else if x.locked i then (x, 0, some .inUse)
      else
        let rest := storeRecords l (slot + 1) (x.store i r.record)
        (rest.1, rest.2.1 + 1, rest.2.2)

/-- The reply to a list request that may stop partway: status, count, next place, reason or 0x00 (R189). -/
def partialReply (first count : Nat) (reason : Option Status) : List Byte :=
  leBytes 1 (match reason with | none => Status.ok.code | some _ => Status.partially.code)
    ++ leBytes 1 count ++ leBytes 1 (first + count : Nat) ++ leBytes 1 ((reason.map Status.code).getD 0)

/-- LOAD STEPS (R6). -/
def Bank.loadSteps (t : Tube) (p : List Byte) (b : Bank) : Decision :=
  let first := u8 p 1
  if 63 < first then b.refuse .badField
  else
    let done := storeRecords ((parseRecords (u8 p 2) (p.drop 3)).getD []) first (b.run t)
    (b.modRun t fun _ => done.1, partialReply first done.2.1 done.2.2)

/-- CLEAR STEPS (R8). -/
def Bank.clearSteps (t : Tube) (_ : List Byte) (b : Bank) : Decision :=
  if (b.run t).state = .running then b.refuse .badState
  else (b.modRun t fun x => { x with slots := Vector.replicate 64 none }).answer

/-! ## Entering a step (R13) -/

/-- Items 1, 2 and 4 of R13. -/
def RunEngine.enter (x : RunEngine) (i : Slot) : RunEngine :=
  { x with
    step := some i
    highWater := some (match x.highWater with | none => i | some h => if h < i then i else h)
    stepClock := 0
    maxClock := 0
    phase := .waitGas
    activated := false }

/-- The loop counter of a slot, 0 where it has none (R9, R13). -/
def RunEngine.counter (x : RunEngine) (i : Slot) : Nat :=
  match x.slots[i] with
  | none => 0
  | some c => c.counter

/-- A step is entered: R13, with the request its gas part makes. -/
def Bank.enterStep (pub : Publisher) (t : Tube) (i : Slot) (b : Bank) : Bank :=
  let b := (b.modRun t fun x => x.enter i).clearStepTime t
  let b := b.report (some t) .stepEntered (slotDetail (some i)) (some ((b.run t).counter i))
    (some (flagDetail (b.run t).abortPath))
  match (b.record t i).bind (·.gas) with
  | none => b.becomeActive pub t
  | some part => b.requestGas pub t .step (b.partFlows t part)

/-! ## Leaving a step and the run end (R20, R21) -/

/-- The outcome a run ends with under R20 (R21). -/
def RunEngine.endOutcome (x : RunEngine) : RunOutcome := if x.abortPath then .aborted else .done

/-- The run end: the Run Engine's own items, then the Ramp Generator, the Purge and Gate Unit, the gas and the boat (R21,
R63, R117, R130, R149). The end itself leaves the timers and GAS_FLOW as they stand (R126); where its idle purge changes an
effective setpoint, that change restarts the channel's timers and has GAS_FLOW judged (R119, R123, R124): DEDUCED,
notes/assumptions/56.md. -/
def Bank.endRun (pub : Publisher) (t : Tube) (b : Bank) : Bank :=
  let outcome := (b.run t).endOutcome
  let b := b.modRun t fun x => { x with outcome := outcome, phase := .none, abortPath := false }
  let b := b.report (some t) .runDone (some outcome.code) (slotDetail (b.run t).step)
  let b := b.modRun t fun x => { x with state := .idle }
  let b := b.stopRamp t
  let b := b.modGate t fun g => { g with target := none, purgeDone := false }
  (b.idlePurge pub t).boatRunEnd pub t

/-- A slot's loop counter is set. -/
def RunEngine.setCounter (x : RunEngine) (i : Slot) (n : Nat) : RunEngine :=
  { x with slots := x.slots.set i (x.slots[i].map fun c => { c with counter := n }) }

/-- The slot with a number, where it holds a record. -/
def RunEngine.filledSlot (x : RunEngine) (n : Nat) : Option Slot :=
  (asFin 64 n).filter fun i => x.slots[i].isSome

/-- The rows of R20's table below the repeat part: the next slot, unless the run ends. -/
def RunEngine.onward (x : RunEngine) (i : Slot) (r : StepRecord) : Option Slot :=
  if r.final then none else x.filledSlot (i.val + 1)

/-- Where the run goes on leaving slot `i`: the counters after it, and the step entered, none where the run ends (R20). -/
def RunEngine.leave (x : RunEngine) (i : Slot) (c : SlotContent) : RunEngine × Option Slot :=
  match c.record.repetition with
  | none => (x, x.onward i c.record)
  | some q =>
    if 0 < c.counter then (x.setCounter i (c.counter - 1), x.filledSlot q.toIndex)
    else (x.setCounter i q.count, x.onward i c.record)

/-- A complete step is left (R20). -/
def Bank.leaveStep (pub : Publisher) (t : Tube) (i : Slot) (c : SlotContent) (b : Bank) : Bank :=
  let b := b.clearStepTime t
  let b := b.report (some t) .stepDone (slotDetail (some i)) (some (b.run t).stepClock)
  let b := b.orphanOrder t
  let went := (b.run t).leave i c
  let b := b.modRun t fun _ => went.1
  match went.2 with
  | none => b.endRun pub t
  | some j => b.enterStep pub t j

/-! ## The control-period expiry (R17 to R19) -/

/-- The clocks of a RUNNING tube with an empty stack advance: the step clock in ACTIVE, the max-time clock in either phase
(R17, R18). -/
def RunEngine.advance (x : RunEngine) (period : Nat) : RunEngine :=
  { x with
    stepClock := if x.phase = .active then satAdd x.stepClock period Config.clockMax else x.stepClock
    maxClock := satAdd x.maxClock period Config.clockMax }

/-- Does a clock meet a number of seconds? -/
def clockMeets (clock seconds : Nat) : Bool := decide (seconds * Config.ticksPerSecond ≤ clock)

/-- Is the current step, with record `r`, complete (R19)? -/
def Bank.stepComplete (b : Bank) (t : Tube) (r : StepRecord) : Bool :=
  clockMeets (b.run t).stepClock r.duration
    && (r.stability.isNone || b.stable t)
    && (r.motion.isNone || (b.boat t).motionDone)
    && (r.purge.isNone || (b.gate t).purgeDone)
    && (b.gas t).applied

/-- The max-time test (R18). -/
def Bank.maxTimeTest (pub : Publisher) (t : Tube) (r : StepRecord) (b : Bank) : Bank :=
  if r.maxTime ≠ 0 ∧ clockMeets (b.run t).maxClock r.maxTime ∧ (b.run t).stepTime = false then
    (b.modRun t fun x => { x with stepTime := true }).raise pub t .stepTime 4
  else b

/-- The judgement of the current step after the clocks have advanced (R18, R19). -/
def Bank.judgeStep (pub : Publisher) (t : Tube) (b : Bank) : Bank :=
  match (b.run t).step with
  | none => b
  | some i =>
    match (b.run t).slots[i] with
    | none => b
    | some c =>
      if (b.run t).phase = .active ∧ b.stepComplete t c.record then b.leaveStep pub t i c
      else b.maxTimeTest pub t c.record

/-- A control-period expiry at the Run Engine (R17 to R20). -/
def Bank.runEngineExpiry (pub : Publisher) (t : Tube) (b : Bank) : Bank :=
  match b.expiringPeriod t with
  | none => b
  | some period =>
    if (b.run t).state = .running ∧ b.unheld t then (b.modRun t fun x => x.advance period).judgeStep pub t else b

/-! ## START RUN (R11, R12) -/

/-- The first check of R11 that fails, `first` and `abort` being the characters of the request. -/
def Bank.startRefusal (b : Bank) (t : Tube) (first abort : Nat) : Option Status :=
  if (b.run t).state ≠ .idle then some .badState
  else if b.unheld t = false then some .badState
  else if 63 < first ∨ (63 < abort ∧ abort ≠ 0xFF) then some .badField
  else if ((b.run t).filledSlot first).isNone then some .badField
  else if (b.boat t).paddle = .unlocated ∨ (b.boat t).paddle = .fault then some .unlocated
  else if (b.boat t).paddle.inMotion then some .motionBusy
  else none

/-- Items 1 to 6 of R12. -/
def RunEngine.start (x : RunEngine) (i : Slot) (abort : Option Slot) : RunEngine :=
  { x with
    slots := x.slots.map fun c => c.map fun c => { c with counter := (c.record.repetition.map (·.count)).getD 0 }
    abortIndex := abort
    abortPath := false
    outcome := .none
    highWater := some i
    state := .running }

/-- START RUN (R11, R12); a HOST order that waits is discarded (R148). -/
def Bank.startRun (pub : Publisher) (t : Tube) (p : List Byte) (b : Bank) : Decision :=
  match b.startRefusal t (u8 p 1) (u8 p 2), asFin 64 (u8 p 1) with
  | some s, _ => b.refuse s
  | none, none => b.refuse .badField
  | none, some i =>
    (((b.modRun t fun x => x.start i (asFin 64 (u8 p 2))).boatStartRun pub t).enterStep pub t i).answer

/-! ## ABORT RUN (R22 to R24) -/

/-- The current step is left without completing it (R22). The phase stands at NONE from here until the next step, so that
the emptying of the stack asks for no gas. A cancelled request calls for a re-examination (R116, R117). -/
def Bank.abandonStep (pub : Publisher) (t : Tube) (b : Bank) : Bank :=
  let waited := b.supply.waits t
  let b := b.modRun t fun x => { x with phase := .none }
  let b := b.cancelRequest t
  let b := if waited then b.modSupply Supply.callReexamination else b
  (b.clearStepTime t).boatAbort pub t

/-- Where the run goes after the discard: the abort path, or SAFE through HOST_ABORT (R23, R24). -/
def Bank.afterAbort (pub : Publisher) (t : Tube) (b : Bank) : Bank :=
  match (if (b.run t).abortPath then none else (b.run t).abortIndex.filter fun i => (b.run t).slots[i].isSome) with
  | some i =>
    let b := b.modRun t fun x => { x with abortPath := true }
    let b := b.report (some t) .runAborted (slotDetail (some i)) (slotDetail (b.run t).step)
    b.enterStep pub t i
  | none => (b.modRun t fun x => { x with hostAbort := true }).raise pub t .hostAbort 7

/-- ABORT RUN (R22, R45). -/
def Bank.abortRun (pub : Publisher) (t : Tube) (_ : List Byte) (b : Bank) : Decision :=
  if (b.run t).state ≠ .running then b.refuse .badState
  else
    let b := (b.abandonStep pub t).emptyHolds t .abort
    ((pub t b).afterAbort pub t).answer

/-! ## RESET TUBE (R26, R47) -/

/-- Is a member of the level-7 condition set present (R47)? -/
def Bank.resetBlocked (b : Bank) (t : Tube) : Bool := (b.hold t).level7.any (b.memberPresent t)

/-- The changes of RESET TUBE up to IDLE (R26, R47 items 1 and 2, R71, R130). -/
def Bank.clearTube (pub : Publisher) (t : Tube) (b : Bank) : Bank :=
  let b := b.emptyHolds t .reset
  let b := b.modHold t fun h => { h with level7 := [] }
  let b := b.modLoops t fun v => v.map ZoneLoop.resetTube
  let b := (b.stopRamp t).resetStability t
  let b := b.modGate t fun g => { g with target := none, purgeDone := false }
  (b.idlePurge pub t).modRun t fun x => { x with state := .idle }

/-- RESET TUBE (R26). -/
def Bank.resetTube (pub : Publisher) (t : Tube) (_ : List Byte) (b : Bank) : Decision :=
  if (b.run t).state ≠ .safe then b.refuse .badState
  else if b.resetBlocked t then b.refuse .conditionPresent
  else (pub t ((b.clearTube pub t).presentAgain t)).answer

/-! ## HOLD and RELEASE (R41 to R43) -/

/-- The disposition character of HOLD's reply (R189). -/
def Disposition.code : Disposition → Nat
  | .taken => 0
  | .pended => 1
  | .represented => 2
  | .absorbed => 1

/-- HOLD (R41). -/
def Bank.holdRequest (pub : Publisher) (t : Tube) (p : List Byte) (b : Bank) : Decision :=
  let L := u8 p 1
  if L < 1 ∨ 6 < L then b.refuse .badField
  else
    let d := b.decideRaise t .host L
    Bank.answer (if d.2 = .taken then pub t d.1 else d.1) (leBytes 1 d.2.code)

/-- RELEASE of a level that is not the top level (R43). -/
def Bank.releasePending (t : Tube) (L : Nat) (b : Bank) : Decision :=
  match (b.hold t).entry .host with
  | none => b.refuse .notTop
  | some e =>
    if e.level = L then
      ((b.modHold t fun h => { h with pending := h.pending.filter fun e => e.source ≠ .host }).reportWithdrawn t .release
        e).answer
    else b.refuse .notTop

/-- RELEASE of the top level (R42). -/
def Bank.releaseTop (pub : Publisher) (t : Tube) (f : Frame) (b : Bank) : Decision :=
  if f.level = 7 then b.refuse .badState
  else if f.source ≠ .host ∧ f.present then b.refuse .conditionPresent
  else (b.popHold pub t f).answer

/-- RELEASE (R42, R43). -/
def Bank.releaseRequest (pub : Publisher) (t : Tube) (p : List Byte) (b : Bank) : Decision :=
  let L := u8 p 1
  if L < 1 ∨ 7 < L then b.refuse .badField
  else
    match (b.hold t).stack with
    | [] => b.releasePending t L
    | f :: _ => if f.level = L then b.releaseTop pub t f else b.releasePending t L

/-! ## SET IDLE TEMPERATURE (R58) -/

/-- SET IDLE TEMPERATURE (R58). -/
def Bank.setIdleTemperature (t : Tube) (p : List Byte) (b : Bank) : Decision :=
  if (b.run t).state ≠ .idle then b.refuse .badState
  else if within (s24 p 1) 0 140000 = false ∨ 3000 < u16 p 4 then b.refuse .badField
  else (b.startRamp t (idleRamp (s24 p 1) (u16 p 4))).answer

/-! ## The end of a tube's configuration (R10) -/

/-- Called as one of the three CONFIGURE requests is marked accepted: where the third mark stands, the tube leaves
UNCONFIGURED for IDLE or SAFE, and the scanner judges its control channels (R10, R99). -/
def Bank.completeConfiguration (pub : Publisher) (t : Tube) (b : Bank) : Bank :=
  if (b.run t).state = .unconfigured ∧ (b.tube t).marks = (true, true, true) then
    let b :=
      if (b.hold t).level = 7 then b.enterSafe t
      else (b.modRun t fun x => { x with state := .idle }).idlePurge pub t
    b.judgeTcConfigured pub t
  else b

/-- CONFIGURE ZONES (R74, R75). -/
def Bank.configureZones (pub : Publisher) (t : Tube) (p : List Byte) (b : Bank) : Decision :=
  let c := readZones p
  if (b.run t).state = .running then b.refuse .badState
  else if c.legal = false then b.refuse .badField
  else
    let b := b.modTube t fun x => { x with zonesConfig := some c }
    ((b.completeConfiguration pub t).applyZones pub t c).answer

end Sys2Proof.Machine
end

