-- ==== Sys2Proof/Machine/BoatRequests.lean ====
section
/-! DEFINITION. The requests of the Boat Drive and its end-cap sensor (chapter 8): CONFIGURE RAIL, LOCATE BOAT, MOVE BOAT,
CLEAR MOTION FAULT, SET SPEED TABLE, and the change and the taking of the sensor. -/

namespace Sys2Proof.Machine

/-! ## CONFIGURE RAIL (R141, R142) -/

/-- The fields of CONFIGURE RAIL (R188). -/
def readRail (p : List Byte) : Rail where
  length := u16 p 1
  inPos := u16 p 3
  doorZone := u16 p 5
  doorSpeed := u16 p 7
  locateSpeed := u16 p 9

/-- The ranges of the rail settings (R141). -/
def Rail.legal (r : Rail) : Bool :=
  within r.length 1 25000 && within r.inPos 1 r.length && decide (r.doorZone < r.inPos) && within r.doorSpeed 1 600
    && within r.locateSpeed 1 600

/-- A position above the new in-position is given up, and a STOPPED paddle with it becomes UNLOCATED (R142 item 3). -/
def Boat.giveUpPosition (x : Boat) (inPos : Nat) : Boat :=
  if (x.paddle = .stopped ∨ x.paddle = .fault) ∧ x.position.any fun p => decide (inPos < p) then
    { x with position := none, paddle := if x.paddle = .stopped then .unlocated else x.paddle }
  else x

/-- Items 2 and 3 of R142: a waiting order is discarded, and a position above the new in-position given up. -/
def Boat.takeRail (x : Boat) (r : Rail) : Boat :=
  { x with locate := none, order := none, unlocWaiting := false, blocked := false }.giveUpPosition r.inPos

/-- Items 2 to 4 of R142, with the MOTION condition a discarded order may leave (R154). -/
def Bank.applyRail (pub : Publisher) (t : Tube) (r : Rail) (b : Bank) : Bank :=
  ((b.modBoat t fun x => x.takeRail r).judgeMotion pub t).judgeSeal pub t

/-- CONFIGURE RAIL (R141, R142). -/
def Bank.configureRail (pub : Publisher) (t : Tube) (p : List Byte) (b : Bank) : Decision :=
  let r := readRail p
  if (b.run t).state = .running then b.refuse .badState
  else if (b.boat t).paddle.inMotion then b.refuse .motionBusy
  else if r.legal = false then b.refuse .badField
  else
    let b := b.modBoat t fun x => { x with rail := some r }
    ((b.completeConfiguration pub t).applyRail pub t r).answer

/-! ## LOCATE BOAT, MOVE BOAT, CLEAR MOTION FAULT, SET SPEED TABLE (R146, R148, R152, R155) -/

/-- A LOCATE order is taken: it replaces a LOCATE or HOST order and keeps a STEP order (R146). -/
def Boat.takeLocate (x : Boat) : Boat :=
  { x with locate := x.rail.map (·.locateSpeed), order := x.order.filter fun o => o.kind = .step }

/-- LOCATE BOAT (R146). -/
def Bank.locateBoat (pub : Publisher) (t : Tube) (_ : List Byte) (b : Bank) : Decision :=
  if (b.hold t).level = 7 then b.refuse .badState
  else if (b.boat t).paddle ≠ .unlocated then b.refuse .badState
  else ((b.modBoat t Boat.takeLocate).startLocate pub t).answer

/-- The in-position of a tube; 0 while it has no rail settings. -/
def Bank.inPos (b : Bank) (t : Tube) : Nat :=
  match (b.boat t).rail with
  | none => 0
  | some r => r.inPos

/-- The first check of R148 that fails. -/
def Bank.moveRefusal (b : Bank) (t : Tube) (target speed : Nat) : Option Status :=
  if (b.run t).state ≠ .idle then some .badState
  else if 25000 < target ∨ speed < 1 ∨ 600 < speed then some .badField
  else if (b.boat t).paddle = .unlocated ∨ (b.boat t).paddle = .fault then some .unlocated
  else if (b.boat t).paddle.inMotion then some .motionBusy
  else none

/-- MOVE BOAT (R148). -/
def Bank.moveBoat (pub : Publisher) (t : Tube) (p : List Byte) (b : Bank) : Decision :=
  match b.moveRefusal t (u16 p 1) (u16 p 3) with
  | some s => b.refuse s
  | none =>
    let target := min (u16 p 1) (b.inPos t)
    let b := b.discardOrder pub t
    let b := b.modBoat t fun x => { x with order := some ⟨.host, target, u16 p 3, none, false⟩ }
    (b.startOrder pub t).answer (leBytes 2 target)

/-- CLEAR MOTION FAULT (R155). -/
def Bank.clearMotionFault (pub : Publisher) (t : Tube) (_ : List Byte) (b : Bank) : Decision :=
  if (b.boat t).paddle ≠ .fault then b.refuse .badState
  else ((b.modBoat t fun x => { x with paddle := .unlocated, position := none }).judgeMotion pub t).answer

/-- The 16 entries of SET SPEED TABLE (R188). -/
def readSpeeds (p : List Byte) : Vector Nat 16 := Vector.ofFn fun i => u16 p (1 + 2 * i.val)

/-- SET SPEED TABLE (R152). -/
def Bank.setSpeedTable (t : Tube) (p : List Byte) (b : Bank) : Decision :=
  if (readSpeeds p).toList.any fun v => decide (600 < v) then b.refuse .badField
  else (b.modBoat t fun x => { x with table := readSpeeds p }).answer

/-! ## The end-cap sensor (R159) -/

/-- The pin of the sensor takes a state; a change starts its 50 ms afresh. -/
def Boat.sensorPin (x : Boat) (closed : Bool) : Boat :=
  if x.sensorRaw = closed then x else { x with sensorRaw := closed, sensorTime := 0 }

/-- The pin has stood for 50 ms at a state other than the one kept: it is taken and the seal judged. -/
def Bank.takeSensor (pub : Publisher) (t : Tube) (b : Bank) : Bank :=
  if (b.boat t).sensorRaw = (b.boat t).sensor then b
  else
    (b.modBoat t fun x => { x with sensor := x.sensorRaw, sensorTime := Config.debounceFull }).judgeSeal pub t

end Sys2Proof.Machine
end

