-- ==== Sys2Proof/Machine/GasRequests.lean ====
section
/-! DEFINITION. The requests of the gas path (chapters 6 and 7): SET GAS MAP, CONFIGURE CHANNELS, SET SUPPLY LIMIT and SET
GATE LIMITS. -/

namespace Sys2Proof.Machine

/-! ## SET GAS MAP (R104 to R106) -/

/-- The channels of a tube whose CONFIGURE CHANNELS has been accepted that carry a code. -/
def Bank.carries (b : Bank) (t : Tube) (code : GasCode) : List Channel :=
  match (b.gas t).config with
  | none => []
  | some g => allChannels.filter fun c => g.channels[c].code = code

/-- Is `code` the gas of the tube's purge channel? -/
def Bank.purgeCode (b : Bank) (t : Tube) (code : GasCode) : Bool := (b.carries t code).any (b.isPurge t)

/-- May an entry feed a purge channel: INERT, with a line (R105, R107)? -/
def MapEntry.feedsPurge (e : MapEntry) : Bool := e.line.isSome && decide (e.cls = .inert)

/-- Does tube `t` keep the entry of `code` from being replaced by `e` (R105)? -/
def Bank.mapInUse (b : Bank) (t : Tube) (code : GasCode) (e : MapEntry) : Bool :=
  !(b.carries t code).isEmpty
    && ((match b.gasMap[code].line with | none => false | some s => decide (b.supply.allocated t s ≠ 0))
      || b.supply.waits t
      || (b.purgeCode t code && !e.feedsPurge))

/-- The line of an entry as sent: 0..7, or 0xFF for NONE. -/
def readLine (x : Nat) : Option (Option Line) := if x = 0xFF then some none else (asFin 8 x).map some

/-- The class of an entry as sent. -/
def readClass (x : Nat) : Option GasClass :=
  match x with
  | 0 => some .inert
  | 1 => some .oxidant
  | 2 => some .flammable
  | 3 => some .reactive
  | _ => none

/-- Entries written from `code` upward: the bank after it, the codes written with their former entries, and the reason
code of the stopping entry if one stopped (R104). An entry that fails its range check and would also be in use is refused
with BAD_FIELD: the causes are tried in the order of R104's table (DESIGN CHOICE, notes/assumptions/48.md). -/
def writeEntries : List (Nat × Nat) → Nat → Bank → Bank × List (GasCode × MapEntry) × Option Status
  | [], _, b => (b, [], none)
  | e :: l, code, b =>
    match asFin 16 code, readLine e.1, readClass e.2 with
    | some c, some line, some cls =>
      let new : MapEntry := ⟨line, cls⟩
      if allTubes.any fun t => b.mapInUse t c new then (b, [], some .inUse)
      else
        let rest := writeEntries l (code + 1) { b with gasMap := b.gasMap.set c new }
        (rest.1, (c, b.gasMap[c]) :: rest.2.1, rest.2.2)
    | _, _, _ => (b, [], some .badField)

/-- The entries of a SET GAS MAP payload. -/
def readEntries (p : List Byte) : List (Nat × Nat) :=
  (List.range (u8 p 1)).map fun k => (u8 p (2 + 2 * k), u8 p (3 + 2 * k))

/-- A channel of a configured tube that becomes uncovered: its code was written from NONE to a line, and it requests a flow
(R106 item 1). -/
def Bank.newlyUncovered (b : Bank) (t : Tube) (written : List (GasCode × MapEntry)) (c : Channel) : Bool :=
  match b.channelConfig t c with
  | none => false
  | some k =>
    (b.channelEntry t c).line.isSome && decide (0 < (b.gas t).channels[c].requested)
      && written.any fun w => decide (w.1 = k.code) && w.2.line.isNone

/-- The marks of R106 item 1 on a tube. -/
def Bank.markUncovered (b : Bank) (t : Tube) (written : List (GasCode × MapEntry)) : Bank :=
  b.modGas t fun g =>
    { g with channels := Vector.ofFn fun c =>
        { g.channels[c] with uncovered := g.channels[c].uncovered || b.newlyUncovered t written c } }

/-- What written entries do to one tube (R106). -/
def Bank.followMap (pub : Publisher) (written : List (GasCode × MapEntry)) (t : Tube) (b : Bank) : Bank :=
  if (written.any fun w => !(b.carries t w.1).isEmpty) = false then b
  else
    let marked := allChannels.any (b.newlyUncovered t written)
    let b := (b.markUncovered t written).formEffective pub t
    if marked then b.requestGas pub t .cover (b.requestedFlows t) else b

/-- SET GAS MAP (R104, R106). A list without an entry is outside the range of its count. -/
def Bank.setGasMap (pub : Publisher) (p : List Byte) (b : Bank) : Decision :=
  let first := u8 p 0
  if 15 < first ∨ u8 p 1 = 0 then b.refuse .badField
  else
    let done := writeEntries (readEntries p) first b
    (done.1.eachTube (Bank.followMap pub done.2.1), partialReply first done.2.1.length done.2.2)

/-! ## CONFIGURE CHANNELS (R107, R108) -/

/-- A channel record as sent: its four fields and whether its flag is 0 or 1. -/
structure SentChannel where
  code : Nat
  fullScale : Nat
  tolerance : Nat
  flag : Nat
  deriving DecidableEq, Repr

/-- The channel record at an offset of the payload (R188). -/
def readChannel (p : List Byte) (i : Nat) : SentChannel := ⟨u8 p i, u16 p (i + 1), u16 p (i + 3), u8 p (i + 5)⟩

/-- The ranges of a channel record (R107). -/
def SentChannel.legal (k : SentChannel) : Bool :=
  decide (k.code ≤ 15) && within k.fullScale 10 30000 && within k.tolerance 10 500 && decide (k.flag ≤ 1)

/-- The channel record as stored. -/
def SentChannel.stored (k : SentChannel) : ChannelConfig :=
  ⟨Fin.ofNat 16 k.code, k.fullScale, k.tolerance, decide (k.flag = 1)⟩

/-- The channel records of the payload. -/
def readChannels (p : List Byte) : Vector SentChannel 6 := Vector.ofFn fun c => readChannel p (7 + 6 * c.val)

/-- The configuration a CONFIGURE CHANNELS payload carries. -/
def readGasConfig (p : List Byte) : GasConfig where
  floor := u16 p 1
  gateVolume := u32 p 3
  channels := (readChannels p).map SentChannel.stored

/-- The number of channels that carry the purge flag. -/
def GasConfig.purgeFlags (g : GasConfig) : Nat := (allChannels.filter fun c => g.channels[c].purge).length

/-- The purge line of a configuration under the present map (R107). -/
def Bank.purgeLine (b : Bank) (g : GasConfig) : Option Line :=
  g.purgeChannel.bind fun c => if b.gasMap[g.channels[c].code].feedsPurge then b.gasMap[g.channels[c].code].line else none

/-- The BAD_FIELD checks of R107. -/
def Bank.channelsLegal (b : Bank) (p : List Byte) : Bool :=
  let g := readGasConfig p
  decide (g.floor ≤ 5000) && decide (g.gateVolume ≤ 2000000000) && allChannels.all (fun c => (readChannels p)[c].legal)
    && decide (g.purgeFlags = 1) && g.purgeChannel.any (fun c => decide (g.floor ≤ g.channels[c].fullScale))
    && (b.purgeLine g).isSome

/-- The IN_USE check of R107. -/
def Bank.floorFits (b : Bank) (t : Tube) (g : GasConfig) : Bool :=
  (b.purgeLine g).all fun s => decide (g.floor + b.supply.others t s ≤ b.supply.limits[s])

/-- A channel's settle and deviation timers are set to 0 (R108 item 3). -/
def GasChannel.restartTimers (c : GasChannel) : GasChannel := { c with settle := 0, deviation := 0 }

/-- Items 2 to 6 of R108. The effective setpoints are formed without a judgement of GAS_FLOW, whose condition keeps its
value here (notes/assumptions/44.md). -/
def Bank.applyChannels (t : Tube) (before : Supply) (b : Bank) : Bank :=
  let b := b.setIdlePurge t
  let b := b.modGas t fun g => { g with channels := g.channels.map GasChannel.restartTimers }
  let b := b.modGas t fun g => { g with channels := b.drivenChannels t }
  if before.gaveBack b.supply t then b.modSupply Supply.callReexamination else b

/-- CONFIGURE CHANNELS (R107, R108). -/
def Bank.configureChannels (pub : Publisher) (t : Tube) (p : List Byte) (b : Bank) : Decision :=
  let g := readGasConfig p
  if (b.run t).state = .running then b.refuse .badState
  else if b.channelsLegal p = false then b.refuse .badField
  else if b.floorFits t g = false then b.refuse .inUse
  else
    let before := b.supply
    let b := b.modGas t fun u => { u with config := some g }
    ((b.completeConfiguration pub t).applyChannels t before).answer

/-! ## SET SUPPLY LIMIT and SET GATE LIMITS (R118, R132) -/

/-- SET SUPPLY LIMIT (R118). -/
def Bank.setSupplyLimit (p : List Byte) (b : Bank) : Decision :=
  let limit := u24 p 1
  match asFin 8 (u8 p 0) with
  | none => b.refuse .badField
  | some s =>
    if 200000 < limit then b.refuse .badField
    else if limit < b.supply.total s then b.refuse .inUse
    else
      let raised := decide (b.supply.limits[s] < limit)
      let b := b.modSupply fun x => { x with limits := x.limits.set s limit }
      (if raised then b.modSupply Supply.callReexamination else b).answer

/-- SET GATE LIMITS (R132). -/
def Bank.setGateLimits (p : List Byte) (b : Bank) : Decision :=
  if within (s24 p 0) 0 140000 = false ∨ 2000 < u16 p 3 then b.refuse .badField
  else Bank.answer { b with threshold := s24 p 0, ratio := u16 p 3 }

end Sys2Proof.Machine
end

