-- ==== Sys2Proof/Machine/InterlockUnit.lean ====
section
/-! DEFINITION. The Interlock Unit (chapter 9): inputs, group bytes, action tables, group levels, summaries and reports. -/

namespace Sys2Proof.Machine

/-! ## Groups (R161) -/

/-- The tubes that see a group, in order: all four for a bank group, its own for a tube group. -/
def groupTubes (g : Group) : List Tube := if g.val < 2 then allTubes else [⟨(g.val - 2) / 2, by omega⟩]

/-- The hold source a group feeds. -/
def groupSource (g : Group) : Source :=
  if g.val = 0 then .ilk0 else if g.val = 1 then .ilk1 else if g.val % 2 = 0 then .ilk2 else .ilk3

/-- The groups a tube sees, with their numbers 0..3, in the order of the summary's scan (R168). -/
def tubeGroups (t : Tube) : List (Nat × Group) :=
  [(0, 0), (1, 1), (2, ⟨2 + 2 * t.val, by omega⟩), (3, ⟨3 + 2 * t.val, by omega⟩)]

def Bank.group (b : Bank) (g : Group) : InterlockGroup := b.interlock.groups[g]
def Bank.modGroup (b : Bank) (g : Group) (f : InterlockGroup → InterlockGroup) : Bank :=
  { b with interlock := { b.interlock with groups := b.interlock.groups.set g (f (b.group g)) } }

/-- The entry of a group's table at its byte (R164). -/
def Bank.tableLevel (b : Bank) (g : Group) : Nat := (b.interlock.tables[g])[(b.group g).byte.toNat]

/-! ## The summary and its report (R168, R169) -/

/-- A first-interlock summary: group number, byte and level. -/
structure Summary where
  number : Nat
  byte : BitVec 8
  level : Nat
  deriving DecidableEq, Repr

/-- The first group in scan order whose level is above 0 (R168). -/
def Bank.summary (b : Bank) (t : Tube) : Option Summary :=
  ((tubeGroups t).find? fun g => decide (0 < (b.group g.2).level)).map fun g =>
    ⟨g.1, (b.group g.2).byte, (b.group g.2).level⟩

/-- INTERLOCK_CHANGE for one tube (R169). -/
def Bank.reportInterlock (b : Bank) (t : Tube) : Bank :=
  let s := b.summary t
  b.report (some t) .interlockChange (s.map fun s => (s.number : Int)) (s.map fun s => (s.byte.toNat : Int))
    (s.map fun s => (s.level : Int))

/-! ## A change of a group (R166) -/

/-- One Hold Unit is told a group's new level (R166 item 4). -/
def Bank.tellLevel (pub : Publisher) (s : Source) (level : Nat) (t : Tube) (b : Bank) : Bank :=
  if level = 0 then b.clear t s else b.raise pub t s level

/-- Items 2 to 4 of R166: the level formed, the reports, and the Hold Units told where the level changed. The Hold Units of a
bank group are told in the order of their tubes, each raise or clear decided and published before the next tube is told
(DESIGN CHOICE, notes/assumptions/49.md). -/
def Bank.formLevel (pub : Publisher) (g : Group) (b : Bank) : Bank :=
  let old := (b.group g).level
  let new := b.tableLevel g
  let b := b.modGroup g fun x => { x with level := new }
  let b := (groupTubes g).foldl Bank.reportInterlock b
  if new = old then b
  else (groupTubes g).foldl (fun b t => b.tellLevel pub (groupSource g) new t) b

/-! ## The inputs (R162, R163) -/

/-- A bit of a group pattern is set to a state. -/
def setInput (v : BitVec 8) (i : Input) (closed : Bool) : BitVec 8 :=
  if closed then v ||| BitVec.ofNat 8 (2 ^ i.val) else v &&& ~~~(BitVec.ofNat 8 (2 ^ i.val))

/-- The raw state of an input as its pin gives it; a change starts its 50 ms afresh (R162). -/
def InterlockGroup.pin (x : InterlockGroup) (i : Input) (closed : Bool) : InterlockGroup :=
  if x.raw.getLsbD i = closed then x
  else { x with raw := setInput x.raw i closed, debounce := x.debounce.set i 0 }

/-- An input's raw state is taken into the group byte (R162, R163). -/
def InterlockGroup.take (x : InterlockGroup) (i : Input) : InterlockGroup :=
  { x with byte := setInput x.byte i (x.raw.getLsbD i), debounce := x.debounce.set i Config.debounceFull }

/-- The raw state of an input has stood for 50 ms: where it differs from the taken state it is taken (R162, R166). -/
def Bank.takeInput (pub : Publisher) (g : Group) (i : Input) (b : Bank) : Bank :=
  if (b.group g).raw.getLsbD i = (b.group g).byte.getLsbD i then b
  else (b.modGroup g fun x => x.take i).formLevel pub g

/-! ## SET ACTION TABLE (R165) -/

/-- Levels written to consecutive entries from `i` upward. -/
def writeLevels : List Byte → Nat → Vector Nat 256 → Vector Nat 256
  | [], _, v => v
  | x :: l, i, v => writeLevels l (i + 1) (v.setIfInBounds i x.toNat)

/-- SET ACTION TABLE (R165); a group is numbered as its table is. -/
def Bank.setActionTable (pub : Publisher) (p : List Byte) (b : Bank) : Decision :=
  let first := u8 p 1
  let levels := p.drop 3
  match asFin 10 (u8 p 0) with
  | none => b.refuse .badField
  | some g =>
    if 256 < first + levels.length ∨ levels.any fun x => decide (7 < x.toNat) then b.refuse .badField
    else
      let tables := b.interlock.tables.set g (writeLevels levels first b.interlock.tables[g])
      let b := { b with interlock := { b.interlock with tables := tables } }
      let byte := (b.group g).byte.toNat
      let covered := decide (first ≤ byte) && decide (byte < first + levels.length)
      (if covered && decide (b.tableLevel g ≠ (b.group g).level) then b.formLevel pub g else b).answer

end Sys2Proof.Machine
end

