-- ==== Sys2Proof/Machine/Readback.lean ====
section
/-! DEFINITION. What the READ requests return (R9, R101, R170, R183, R184), laid out as R187, R189 and R192 state. Where
those rules leave the place of an item open, the order of the state tables is kept (DESIGN CHOICE,
notes/assumptions/11.md). -/

namespace Sys2Proof.Machine

/-- The bank clock in four characters. -/
def Bank.clockBytes (b : Bank) : List Byte := leBytes 4 b.clock.toNat

/-- A list whose count comes first. -/
def countedList {α : Type} (l : List α) (f : α → List Byte) : List Byte := leBytes 1 l.length ++ l.flatMap f

/-- A configuration: flag 1 and its fields, or flag 0 in place of them (R192). -/
def optConfig {α : Type} (x : Option α) (f : α → List Byte) : List Byte := flagByte x.isSome ++ partBytes x f

/-! ## READ STEPS (R9) -/

/-- One slot: 0x00 for empty, or 0x01, the loop counter and the record (R189). -/
def slotBytes : Option SlotContent → List Byte
  | none => [0x00]
  | some c => 0x01 :: (leBytes 1 c.counter ++ c.record.bytes)

/-- As many whole members, from the first, as fit a room. -/
def fitting : Nat → List (List Byte) → List (List Byte)
  | _, [] => []
  | room, s :: l => if s.length ≤ room then s :: fitting (room - s.length) l else []

/-- The room for slots beside status, starting index, next index and slot count. -/
def slotRoom : Nat := Config.payloadMax - 4

/-- READ STEPS (R9). The reply is that of R189 and carries no clock, though R182 has the clock in every READ reply
(notes/assumptions/53.md). -/
def Bank.readSteps (t : Tube) (p : List Byte) (b : Bank) : Decision :=
  let first := u8 p 1
  if 63 < first then b.refuse .badField
  else
    let slots := fitting slotRoom (((b.run t).slots.toList.drop first).map slotBytes)
    b.answer (leBytes 1 first ++ leBytes 1 (first + slots.length : Nat) ++ leBytes 1 slots.length ++ slots.flatten)

/-! ## READ READINGS (R101) -/

/-- A channel record: value, status and bad count in one character, last result. -/
def ChannelRecord.bytes (r : ChannelRecord) : List Byte :=
  leBytes 3 r.value ++ leBytes 1 (16 * r.status.code + r.bad : Nat) ++ optTemperature r.last

/-- READ READINGS (R101). -/
def Bank.readReadings (_ : List Byte) (b : Bank) : Decision :=
  b.answer (b.clockBytes ++ leBytes 1 b.scanner.position.val ++ b.scanner.records.toList.flatMap ChannelRecord.bytes)

/-! ## READ INTERLOCKS (R170) -/

/-- A summary: group, byte, level; group 0xFF when none, beside a byte and a level of 0 (DESIGN CHOICE,
notes/assumptions/46.md). -/
def summaryBytes : Option Summary → List Byte
  | none => [0xFF, 0x00, 0x00]
  | some s => leBytes 1 s.number ++ [s.byte] ++ leBytes 1 s.level

/-- READ INTERLOCKS (R170). -/
def Bank.readInterlocks (_ : List Byte) (b : Bank) : Decision :=
  b.answer (b.clockBytes
    ++ b.interlock.groups.toList.flatMap (fun g => [g.byte] ++ leBytes 1 g.level ++ [g.raw])
    ++ allTubes.flatMap fun t => summaryBytes (b.summary t))

/-! ## READ BANK (R183) -/

/-- A queue as four tube numbers from head to tail, 0 for each empty place. -/
def Supply.queueBytes (s : Supply) (l : Line) : List Byte :=
  ([0, 1, 2, 3] : List Nat).flatMap fun k => leBytes 1 (match (s.queue l)[k]? with | none => 0 | some t => t.val + 1)

/-- One supply line: limit, four allocations, queue. -/
def Supply.lineBytes (s : Supply) (l : Line) : List Byte :=
  leBytes 3 s.limits[l] ++ allTubes.flatMap (fun t => leBytes 3 (s.allocated t l)) ++ s.queueBytes l

/-- A map entry in one character. -/
def MapEntry.byte (e : MapEntry) : List Byte :=
  leBytes 1 ((match e.line with | none => 15 | some l => l.val) + 16 * e.cls.code : Nat)

/-- What the Power Share keeps of a tube: demand, grant, limited flag. -/
def Share.bytes (s : Share) : List Byte := leBytes 2 s.demand ++ leBytes 2 s.grant ++ flagByte s.limited

/-- READ BANK (R183, R189). -/
def Bank.readBank (_ : List Byte) (b : Bank) : Decision :=
  b.answer (b.clockBytes
    ++ allTubes.flatMap (fun t => leBytes 1 (16 * (b.run t).state.code + (b.hold t).level : Nat))
    ++ leBytes 2 b.powerLimit
    ++ allTubes.flatMap (fun t => (b.share t).bytes)
    ++ allLines.flatMap b.supply.lineBytes
    ++ b.gasMap.toList.flatMap MapEntry.byte
    ++ leBytes 3 b.threshold ++ leBytes 2 b.ratio
    ++ leBytes 1 b.link.reportLevel ++ leBytes 1 b.link.replies.length ++ leBytes 1 b.link.reports.length
    ++ leBytes 2 b.link.discards ++ leBytes 2 b.link.crcErrors ++ leBytes 2 b.link.lost)

/-! ## READ TUBE (R184) -/

/-- Part RUN: the items of R27; the step list itself is returned by READ STEPS. -/
def Bank.runBytes (b : Bank) (t : Tube) : List Byte :=
  let x := b.run t
  let m := (b.tube t).marks
  leBytes 1 x.state.code ++ flagByte m.1 ++ flagByte m.2.1 ++ flagByte m.2.2 ++ leBytes 1 x.phase.code ++ slotByte x.step
    ++ leBytes 4 x.stepClock ++ leBytes 4 x.maxClock ++ slotByte x.highWater ++ slotByte x.abortIndex
    ++ flagByte x.abortPath ++ leBytes 1 x.outcome.code ++ flagByte x.stepTime ++ flagByte x.hostAbort

/-- A frame: level, source, time taken, step index, condition (R192). -/
def Frame.bytes (f : Frame) : List Byte :=
  leBytes 1 f.level ++ leBytes 1 f.source.code ++ leBytes 4 f.taken.toNat ++ slotByte f.step ++ flagByte f.present

/-- A pending entry: source, level, time made pending, condition (R192). -/
def PendingEntry.bytes (e : PendingEntry) : List Byte :=
  leBytes 1 e.source.code ++ leBytes 1 e.level ++ leBytes 4 e.made.toNat ++ flagByte e.present

/-- The sources other than HOST that own a frame or an entry (R50), in order of source number (DESIGN CHOICE,
notes/assumptions/57.md). -/
def HoldUnit.owners (h : HoldUnit) : List Source :=
  allSources.filter fun s =>
    decide (s ≠ .host) && (h.stack.any (fun f => f.source = s) || h.pending.any (fun e => e.source = s))

/-- Part HOLDS: the items of R50 in its table's order (stack, pending set, level-7 condition set, the records of the
owners, window, level), then the six conditions of R184. -/
def Bank.holdsBytes (b : Bank) (t : Tube) : List Byte :=
  let h := b.hold t
  countedList h.stack.reverse Frame.bytes ++ countedList h.pending PendingEntry.bytes
    ++ countedList h.level7 (fun s => leBytes 1 s.code)
    ++ countedList h.owners (fun s =>
        leBytes 1 s.code ++ flagByte (h.sourceRecord s).present ++ leBytes 1 (h.sourceRecord s).level)
    ++ flagByte h.window ++ leBytes 1 h.level
    ++ flagByte (b.overtempPresent t) ++ flagByte (b.tcPresent t) ++ flagByte (b.gas t).deviating
    ++ flagByte (b.gate t).lost ++ flagByte (b.boat t).motion ++ flagByte (b.ramp t).lag

/-- The Ramp Generator's items (R72). -/
def Bank.rampBytes (b : Bank) (t : Tube) : List Byte :=
  let r := b.ramp t
  leBytes 1 r.kind.code ++ flagByte r.inProgress ++ leBytes 2 r.rate ++ leBytes 3 r.band ++ leBytes 2 r.lagLimit
    ++ allZones.flatMap (fun z =>
        leBytes 3 (roundedSetpoint r.zones[z].start) ++ leBytes 3 r.zones[z].target ++ flagByte r.zones[z].reached
          ++ leBytes 3 (b.setpoint t z))
    ++ leBytes 4 r.lagTimer ++ flagByte r.lag ++ leBytes 4 r.stabTimer ++ flagByte (b.stable t)

/-- A zone record of CONFIGURE ZONES in its layout. -/
def ZoneConfig.bytes (k : ZoneConfig) : List Byte :=
  leBytes 3 k.maxSetpoint ++ leBytes 2 k.kp ++ leBytes 2 k.ki ++ leBytes 2 k.maxOutput ++ leBytes 2 k.rating
    ++ leBytes 3 k.overtempLimit

/-- The Zone Loop's items of one zone (R89), its delivered output and its control reading. -/
def Bank.zoneBytes (b : Bank) (t : Tube) (z : Zone) : List Byte :=
  let l := (b.loops t)[z]
  partBytes (b.tube t).zonesConfig (fun c => c.zones[z].bytes)
    ++ leBytes 2 (l.integral / 65536 : Nat) ++ leBytes 2 l.output ++ flagByte l.frozen ++ flagByte l.forcedOff
    ++ flagByte l.overtemp ++ flagByte l.failed ++ leBytes 2 l.delivered
    ++ leBytes 3 (b.control t z).value ++ leBytes 1 (b.control t z).status.code

/-- Part HEAT. The control period is in ticks, which R187 gives four characters. -/
def Bank.heatBytes (b : Bank) (t : Tube) : List Byte :=
  b.rampBytes t
    ++ optConfig (b.tube t).zonesConfig (fun c => leBytes 4 c.period ++ leBytes 3 c.safeTemp ++ leBytes 2 c.safeRate)
    ++ allZones.flatMap (b.zoneBytes t) ++ (b.share t).bytes

/-- A channel record of CONFIGURE CHANNELS in its layout. -/
def ChannelConfig.bytes (k : ChannelConfig) : List Byte :=
  leBytes 1 k.code.val ++ leBytes 2 k.fullScale ++ leBytes 2 k.tolerance ++ flagByte k.purge

/-- The items of one channel (R126). -/
def Bank.channelBytes (b : Bank) (t : Tube) (c : Channel) : List Byte :=
  let x := (b.gas t).channels[c]
  partBytes (b.gas t).config (fun g => g.channels[c].bytes)
    ++ leBytes 2 x.requested ++ flagByte x.uncovered ++ leBytes 2 x.effective ++ leBytes 2 x.measured ++ leBytes 4 x.settle
    ++ leBytes 4 x.deviation

/-- The Purge and Gate Unit's items (R140), apart from the bank's two gate limits, which READ BANK returns. -/
def Bank.gateBytes (b : Bank) (t : Tube) : List Byte :=
  let g := b.gate t
  flagByte g.sealed ++ leBytes 4 (returnedVolume g.credit) ++ leBytes 4 (g.target.getD 0) ++ flagByte g.purgeDone
    ++ leBytes 4 g.oxidantTimer ++ leBytes 3 g.oxidantSetpoint ++ leBytes 3 g.oxidantMeasured
    ++ g.conditions.toList.flatMap flagByte ++ flagByte g.isOpen ++ flagByte g.lost

/-- Part GAS. -/
def Bank.gasBytes (b : Bank) (t : Tube) : List Byte :=
  let g := b.gas t
  optConfig g.config (fun c => leBytes 2 c.floor ++ leBytes 4 c.gateVolume)
    ++ allChannels.flatMap (b.channelBytes t) ++ flagByte g.deviating ++ leBytes 1 g.levelAsked
    ++ leBytes 4 (returnedVolume g.stepVolume) ++ b.gateBytes t

/-- The rail settings in their layout. -/
def Rail.bytes (r : Rail) : List Byte :=
  leBytes 2 r.length ++ leBytes 2 r.inPos ++ leBytes 2 r.doorZone ++ leBytes 2 r.doorSpeed ++ leBytes 2 r.locateSpeed

/-- The move order: kind (0 for none), target, speed, step index. -/
def orderBytes (o : Option MoveOrder) : List Byte :=
  leBytes 1 ((o.map fun o => o.kind.code).getD 0) ++ optPosition (o.map (·.target))
    ++ leBytes 2 ((o.map fun o => o.speed).getD 0) ++ slotByte (o.bind (·.step))

/-- The stopping record: stopping point (0xFFFF for none), kind (0 for none), step index, target. -/
def stoppingBytes (q : Option StoppingRecord) : List Byte :=
  optPosition (q.map (·.point)) ++ leBytes 1 ((q.map fun q => q.kind.code).getD 0) ++ slotByte (q.bind (·.step))
    ++ optPosition (q.map (·.target))

/-- Part BOAT: the items of R160 in its order. -/
def Bank.boatBytes (b : Bank) (t : Tube) : List Byte :=
  let x := b.boat t
  optConfig x.rail Rail.bytes ++ leBytes 1 x.paddle.code ++ optPosition x.position ++ orderBytes x.order
    ++ flagByte x.locate.isSome ++ leBytes 2 (x.locate.getD 0) ++ stoppingBytes x.stopping
    ++ flagByte x.blocked ++ flagByte x.unlocWaiting ++ leBytes 2 x.speed ++ leBytes 1 x.band ++ leBytes 2 x.locateTravel
    ++ x.table.toList.flatMap (fun v : Nat => leBytes 2 (v : Int)) ++ flagByte x.motion ++ flagByte x.sensor ++ flagByte (b.gate t).sealed
    ++ flagByte (b.hold t).window

/-- The items of a part, by the part's number (R188). -/
def Bank.partItems (b : Bank) (t : Tube) (part : Nat) : Option (List Byte) :=
  match part with
  | 0 => some (b.runBytes t)
  | 1 => some (b.holdsBytes t)
  | 2 => some (b.heatBytes t)
  | 3 => some (b.gasBytes t)
  | 4 => some (b.boatBytes t)
  | _ => none

/-- READ TUBE (R184). -/
def Bank.readTube (t : Tube) (p : List Byte) (b : Bank) : Decision :=
  match b.partItems t (u8 p 1) with
  | none => b.refuse .badField
  | some items => b.answer (b.clockBytes ++ leBytes 1 (u8 p 1) ++ items)

end Sys2Proof.Machine
end

