-- ==== Sys2Proof/Machine/Timebase.lean ====
section
/-! DEFINITION. The Bank Timebase (R76, R182) and the restart of the whole bank (R185, R186). -/

namespace Sys2Proof.Machine

/-! ## The tick (R76, R162, R182) -/

/-- The control period in force after the clock has come to `clock`: from the first multiple of the stored P on, that P
(R75 item 3). -/
def TubeState.periodAt (x : TubeState) (clock : BitVec 32) : Option Nat :=
  match x.zonesConfig with
  | none => x.period
  | some c => if clock.toNat % c.period = 0 then some c.period else x.period

/-- A time since a pin changed, one bank tick later. -/
def debounceTick (time : Nat) : Nat := satAdd time Config.debouncePerTick Config.debounceFull

/-- One tube at a tick. -/
def TubeState.tick (x : TubeState) (clock : BitVec 32) : TubeState :=
  { x with
    period := x.periodAt clock
    boat := { x.boat with sensorTime := debounceTick x.boat.sensorTime } }

/-- One interlock group at a tick. -/
def InterlockGroup.tick (x : InterlockGroup) : InterlockGroup := { x with debounce := x.debounce.map debounceTick }

/-- The bank clock advances by 1, wrapping (R182). -/
def Bank.tick (b : Bank) : Bank :=
  { b with
    clock := b.clock + 1
    tubes := b.tubes.map fun x => x.tick (b.clock + 1)
    interlock := { b.interlock with groups := b.interlock.groups.map InterlockGroup.tick } }

/-! ## Power-up and RESTART BANK (R185, R186) -/

/-- The power-up state of every block, the pins reading as they stand. -/
def Bank.powerUp (b : Bank) : Bank :=
  Bank.reset (b.tubes.map fun x => x.boat.sensorRaw) (b.interlock.groups.map fun g => g.raw)

/-- Does RESTART BANK find a tube RUNNING or a paddle in motion (R185)? -/
def Bank.restartBlocked (b : Bank) : Bool :=
  allTubes.any fun t => decide ((b.run t).state = .running) || (b.boat t).paddle.inMotion

/-- RESTART BANK: the power-up state, a frame being sent excepted (R185). -/
def Bank.restartBank (_ : List Byte) (b : Bank) : Decision :=
  if b.restartBlocked then b.refuse .badState
  else
    let fresh := b.powerUp
    Bank.answer { fresh with link := { fresh.link with sending := b.link.sending } }

/-- SET REPORT LEVEL (R179). -/
def Bank.setReportLevel (p : List Byte) (b : Bank) : Decision :=
  if u8 p 0 < 1 ∨ 7 < u8 p 0 then b.refuse .badField
  else Bank.answer { b with link := { b.link with reportLevel := u8 p 0 } }

end Sys2Proof.Machine
end

