-- ==== Sys2Proof/Machine/Requests.lean ====
section
/-! DEFINITION. The end of an event, the common checks of a request (R175), and the 28 commands that are frames: each
request's common checks and its owner's decision, as they act on the bank. -/

namespace Sys2Proof.Machine

/-! ## The end of an event and the taking of a request (R116, R175 to R178) -/

/-- The end of an event: the waiters are re-examined where the event called for that, and the reports created in it are
offered in creation order (R116, R178). -/
def Bank.close (b : Bank) : Bank := (b.settle publish).endEvent

/-- The decision of a request that found room for its reply: its reply is placed; the Supply Budget's waiters are then
re-examined where the decision called for that, and its reports are offered (R116, R118, R176). -/
def Bank.conclude (d : Decision) (kind tag : Byte) : Bank := (d.1.placeReply (kind + 0x80) tag d.2).close

/-- The common checks of a request that carries a tube, and then its owner's decision (R175). -/
def Bank.takeTubeRequest (b : Bank) (r : Req) (tag : Byte) (p : List Byte) (owner : Tube → List Byte → Bank → Decision) :
    Bank :=
  let b := b.hunting
  if b.repliesFull then b.discard
  else
    let d :=
      if r.lengthOk p = false then b.refuse .badLength
      else
        match requestTube p with
        | none => b.refuse .badTube
        | some t =>
          if (b.run t).state = .unconfigured ∧ r.takenUnconfigured = false then b.refuse .badState else owner t p b
    Bank.conclude d (BitVec.ofNat 8 r.code) tag

/-- The common checks of a request that names no tube, and then its owner's decision (R175). -/
def Bank.takeBankRequest (b : Bank) (r : Req) (tag : Byte) (p : List Byte) (owner : List Byte → Bank → Decision) : Bank :=
  let b := b.hunting
  if b.repliesFull then b.discard
  else
    let d := if r.lengthOk p = false then b.refuse .badLength else owner p b
    Bank.conclude d (BitVec.ofNat 8 r.code) tag

/-- A good frame whose kind is no request kind: discarded outside 0x01..0x7F, else refused with UNKNOWN_KIND (R175). -/
def Bank.takeUnknown (b : Bank) (kind tag : Byte) : Bank :=
  let b := b.hunting
  if kind.toNat = 0 ∨ 0x7F < kind.toNat then b
  else if b.repliesFull then b.discard
  else Bank.conclude (b.refuse .unknownKind) kind tag

/-! ## The requests -/

def Bank.takeLoadSteps (tag : Byte) (p : List Byte) (b : Bank) : Bank := b.takeTubeRequest .loadSteps tag p Bank.loadSteps
def Bank.takeClearSteps (tag : Byte) (p : List Byte) (b : Bank) : Bank :=
  b.takeTubeRequest .clearSteps tag p Bank.clearSteps
def Bank.takeReadSteps (tag : Byte) (p : List Byte) (b : Bank) : Bank := b.takeTubeRequest .readSteps tag p Bank.readSteps
def Bank.takeStartRun (tag : Byte) (p : List Byte) (b : Bank) : Bank :=
  b.takeTubeRequest .startRun tag p (Bank.startRun publish)
def Bank.takeAbortRun (tag : Byte) (p : List Byte) (b : Bank) : Bank :=
  b.takeTubeRequest .abortRun tag p (Bank.abortRun publish)
def Bank.takeResetTube (tag : Byte) (p : List Byte) (b : Bank) : Bank :=
  b.takeTubeRequest .resetTube tag p (Bank.resetTube publish)
def Bank.takeHold (tag : Byte) (p : List Byte) (b : Bank) : Bank :=
  b.takeTubeRequest .hold tag p (Bank.holdRequest publish)
def Bank.takeRelease (tag : Byte) (p : List Byte) (b : Bank) : Bank :=
  b.takeTubeRequest .release tag p (Bank.releaseRequest publish)
def Bank.takeSetIdleTemperature (tag : Byte) (p : List Byte) (b : Bank) : Bank :=
  b.takeTubeRequest .setIdleTemperature tag p Bank.setIdleTemperature
def Bank.takeConfigureZones (tag : Byte) (p : List Byte) (b : Bank) : Bank :=
  b.takeTubeRequest .configureZones tag p (Bank.configureZones publish)
def Bank.takeSetPowerLimit (tag : Byte) (p : List Byte) (b : Bank) : Bank :=
  b.takeBankRequest .setPowerLimit tag p Bank.setPowerLimit
def Bank.takeReadReadings (tag : Byte) (p : List Byte) (b : Bank) : Bank :=
  b.takeBankRequest .readReadings tag p Bank.readReadings
def Bank.takeConfigureChannels (tag : Byte) (p : List Byte) (b : Bank) : Bank :=
  b.takeTubeRequest .configureChannels tag p (Bank.configureChannels publish)
def Bank.takeSetGasMap (tag : Byte) (p : List Byte) (b : Bank) : Bank :=
  b.takeBankRequest .setGasMap tag p (Bank.setGasMap publish)
def Bank.takeSetSupplyLimit (tag : Byte) (p : List Byte) (b : Bank) : Bank :=
  b.takeBankRequest .setSupplyLimit tag p Bank.setSupplyLimit
def Bank.takeSetGateLimits (tag : Byte) (p : List Byte) (b : Bank) : Bank :=
  b.takeBankRequest .setGateLimits tag p Bank.setGateLimits
def Bank.takeConfigureRail (tag : Byte) (p : List Byte) (b : Bank) : Bank :=
  b.takeTubeRequest .configureRail tag p (Bank.configureRail publish)
def Bank.takeLocateBoat (tag : Byte) (p : List Byte) (b : Bank) : Bank :=
  b.takeTubeRequest .locateBoat tag p (Bank.locateBoat publish)
def Bank.takeMoveBoat (tag : Byte) (p : List Byte) (b : Bank) : Bank :=
  b.takeTubeRequest .moveBoat tag p (Bank.moveBoat publish)
def Bank.takeClearMotionFault (tag : Byte) (p : List Byte) (b : Bank) : Bank :=
  b.takeTubeRequest .clearMotionFault tag p (Bank.clearMotionFault publish)
def Bank.takeSetSpeedTable (tag : Byte) (p : List Byte) (b : Bank) : Bank :=
  b.takeTubeRequest .setSpeedTable tag p Bank.setSpeedTable
def Bank.takeSetActionTable (tag : Byte) (p : List Byte) (b : Bank) : Bank :=
  b.takeBankRequest .setActionTable tag p (Bank.setActionTable publish)
def Bank.takeSetReportLevel (tag : Byte) (p : List Byte) (b : Bank) : Bank :=
  b.takeBankRequest .setReportLevel tag p Bank.setReportLevel
def Bank.takeReadBank (tag : Byte) (p : List Byte) (b : Bank) : Bank := b.takeBankRequest .readBank tag p Bank.readBank
def Bank.takeRestartBank (tag : Byte) (p : List Byte) (b : Bank) : Bank :=
  b.takeBankRequest .restartBank tag p Bank.restartBank
def Bank.takeReadTube (tag : Byte) (p : List Byte) (b : Bank) : Bank := b.takeTubeRequest .readTube tag p Bank.readTube
def Bank.takeReadInterlocks (tag : Byte) (p : List Byte) (b : Bank) : Bank :=
  b.takeBankRequest .readInterlocks tag p Bank.readInterlocks

/-- A request of a kind, taken. -/
def Bank.takeRequest (r : Req) (tag : Byte) (p : List Byte) (b : Bank) : Bank :=
  match r with
  | .loadSteps => b.takeLoadSteps tag p
  | .clearSteps => b.takeClearSteps tag p
  | .readSteps => b.takeReadSteps tag p
  | .startRun => b.takeStartRun tag p
  | .abortRun => b.takeAbortRun tag p
  | .resetTube => b.takeResetTube tag p
  | .hold => b.takeHold tag p
  | .release => b.takeRelease tag p
  | .setIdleTemperature => b.takeSetIdleTemperature tag p
  | .configureZones => b.takeConfigureZones tag p
  | .setPowerLimit => b.takeSetPowerLimit tag p
  | .readReadings => b.takeReadReadings tag p
  | .configureChannels => b.takeConfigureChannels tag p
  | .setGasMap => b.takeSetGasMap tag p
  | .setSupplyLimit => b.takeSetSupplyLimit tag p
  | .setGateLimits => b.takeSetGateLimits tag p
  | .configureRail => b.takeConfigureRail tag p
  | .locateBoat => b.takeLocateBoat tag p
  | .moveBoat => b.takeMoveBoat tag p
  | .clearMotionFault => b.takeClearMotionFault tag p
  | .setSpeedTable => b.takeSetSpeedTable tag p
  | .setActionTable => b.takeSetActionTable tag p
  | .setReportLevel => b.takeSetReportLevel tag p
  | .readBank => b.takeReadBank tag p
  | .restartBank => b.takeRestartBank tag p
  | .readTube => b.takeReadTube tag p
  | .readInterlocks => b.takeReadInterlocks tag p

/-- A complete good frame is taken (R175). -/
def Bank.takeFrame (kind tag : Byte) (p : List Byte) (b : Bank) : Bank :=
  match Req.ofCode kind.toNat with
  | none => b.takeUnknown kind tag
  | some r => b.takeRequest r tag p

end Sys2Proof.Machine
end

