-- ==== Sys2Proof/Machine/Receiver.lean ====
section
/-! DEFINITION. The receive framer and the transmitter's completion (R172 to R174, R177). -/

namespace Sys2Proof.Machine

def Bank.modLink (b : Bank) (f : Link → Link) : Bank := { b with link := f b.link }

/-- The receiver enters a state. -/
def Bank.receive (b : Bank) (r : Receiver) : Bank := b.modLink fun l => { l with receiver := r }

/-- A complete frame whose CRC disagrees: discarded, counted, the receiver in HUNT (R174). -/
def Bank.crcMismatch (b : Bank) : Bank :=
  b.modLink fun l => { l with receiver := .hunt, crcErrors := satAdd l.crcErrors 1 Config.countMax }

/-- The CRC is judged over the length, kind, tag and payload characters of a frame (R174); the frame is then taken with the
kind, the tag and the payload of its body (R175). -/
def Bank.judgeFrame (body : List Byte) (first second : Byte) (b : Bank) : Bank :=
  if crc16 (BitVec.ofNat 8 body.length :: body) = crcValue first second then
    match body with
    | kind :: tag :: payload => b.takeFrame kind tag payload
    | _ => b.receive .hunt
  else b.crcMismatch

/-- The receiver takes one character (R173). -/
def Bank.takeCharacter (c : Byte) (b : Bank) : Bank :=
  match b.link.receiver with
  | .hunt => if c = 0x5A then b.receive .length else b
  | .length => if lengthInvalid c then b.receive .hunt else b.receive (.body c.toNat [])
  | .body n kept =>
    if n ≤ kept.length + 1 then b.receive (.check (kept ++ [c]) none) else b.receive (.body n (kept ++ [c]))
  | .check kept none => b.receive (.check kept (some c))
  | .check kept (some first) => b.judgeFrame kept first c

/-- The last character of the frame being sent has gone: the transmitter is idle and starts the next frame (R177). -/
def Bank.transmitComplete (b : Bank) : Bank :=
  if b.link.sending.isNone then b
  else b.modLink fun l => ({ l with sending := none }).startNext b.clock

end Sys2Proof.Machine
end

