-- ==== Sys2Proof/Machine/Commands.lean ====
section
/-! DEFINITION. The meanings of the 47 commands, one definition each: what the command does to the bank. The queue of
waiting commands is never touched here. A command that is no frame ends its event with the re-examination it
called for and the reports it created (R116, R178); a frame's taking ends so itself (R176). -/

namespace Sys2Proof.Machine

/-- What every meaning answers: the state with its bank changed by `f`. -/
def State.onBank (s : State) (f : Bank → Bank) : Host.Outcome State Fault Refusal := .next { s with bank := f s.bank }

/-- What a meaning that is an event of the bank answers: `f`, then the end of the event (R116, R178). -/
def State.onEvent (s : State) (f : Bank → Bank) : Host.Outcome State Fault Refusal :=
  s.onBank fun b => (f b).close

/-! ## Frames (R175) -/

/-- LOAD_STEPS. -/
def execLoadSteps (tag : Byte) (p : List Byte) (s : State) : Host.Outcome State Fault Refusal :=
  s.onBank (Bank.takeLoadSteps tag p)
/-- CLEAR_STEPS. -/
def execClearSteps (tag : Byte) (p : List Byte) (s : State) : Host.Outcome State Fault Refusal :=
  s.onBank (Bank.takeClearSteps tag p)
/-- READ_STEPS. -/
def execReadSteps (tag : Byte) (p : List Byte) (s : State) : Host.Outcome State Fault Refusal :=
  s.onBank (Bank.takeReadSteps tag p)
/-- START_RUN. -/
def execStartRun (tag : Byte) (p : List Byte) (s : State) : Host.Outcome State Fault Refusal :=
  s.onBank (Bank.takeStartRun tag p)
/-- ABORT_RUN. -/
def execAbortRun (tag : Byte) (p : List Byte) (s : State) : Host.Outcome State Fault Refusal :=
  s.onBank (Bank.takeAbortRun tag p)
/-- RESET_TUBE. -/
def execResetTube (tag : Byte) (p : List Byte) (s : State) : Host.Outcome State Fault Refusal :=
  s.onBank (Bank.takeResetTube tag p)
/-- HOLD. -/
def execHold (tag : Byte) (p : List Byte) (s : State) : Host.Outcome State Fault Refusal :=
  s.onBank (Bank.takeHold tag p)
/-- RELEASE. -/
def execRelease (tag : Byte) (p : List Byte) (s : State) : Host.Outcome State Fault Refusal :=
  s.onBank (Bank.takeRelease tag p)
/-- SET_IDLE_TEMPERATURE. -/
def execSetIdleTemperature (tag : Byte) (p : List Byte) (s : State) : Host.Outcome State Fault Refusal :=
  s.onBank (Bank.takeSetIdleTemperature tag p)
/-- CONFIGURE_ZONES. -/
def execConfigureZones (tag : Byte) (p : List Byte) (s : State) : Host.Outcome State Fault Refusal :=
  s.onBank (Bank.takeConfigureZones tag p)
/-- SET_POWER_LIMIT. -/
def execSetPowerLimit (tag : Byte) (p : List Byte) (s : State) : Host.Outcome State Fault Refusal :=
  s.onBank (Bank.takeSetPowerLimit tag p)
/-- READ_READINGS. -/
def execReadReadings (tag : Byte) (p : List Byte) (s : State) : Host.Outcome State Fault Refusal :=
  s.onBank (Bank.takeReadReadings tag p)
/-- CONFIGURE_CHANNELS. -/
def execConfigureChannels (tag : Byte) (p : List Byte) (s : State) : Host.Outcome State Fault Refusal :=
  s.onBank (Bank.takeConfigureChannels tag p)
/-- SET_GAS_MAP. -/
def execSetGasMap (tag : Byte) (p : List Byte) (s : State) : Host.Outcome State Fault Refusal :=
  s.onBank (Bank.takeSetGasMap tag p)
/-- SET_SUPPLY_LIMIT. -/
def execSetSupplyLimit (tag : Byte) (p : List Byte) (s : State) : Host.Outcome State Fault Refusal :=
  s.onBank (Bank.takeSetSupplyLimit tag p)
/-- SET_GATE_LIMITS. -/
def execSetGateLimits (tag : Byte) (p : List Byte) (s : State) : Host.Outcome State Fault Refusal :=
  s.onBank (Bank.takeSetGateLimits tag p)
/-- CONFIGURE_RAIL. -/
def execConfigureRail (tag : Byte) (p : List Byte) (s : State) : Host.Outcome State Fault Refusal :=
  s.onBank (Bank.takeConfigureRail tag p)
/-- LOCATE_BOAT. -/
def execLocateBoat (tag : Byte) (p : List Byte) (s : State) : Host.Outcome State Fault Refusal :=
  s.onBank (Bank.takeLocateBoat tag p)
/-- MOVE_BOAT. -/
def execMoveBoat (tag : Byte) (p : List Byte) (s : State) : Host.Outcome State Fault Refusal :=
  s.onBank (Bank.takeMoveBoat tag p)
/-- CLEAR_MOTION_FAULT. -/
def execClearMotionFault (tag : Byte) (p : List Byte) (s : State) : Host.Outcome State Fault Refusal :=
  s.onBank (Bank.takeClearMotionFault tag p)
/-- SET_SPEED_TABLE. -/
def execSetSpeedTable (tag : Byte) (p : List Byte) (s : State) : Host.Outcome State Fault Refusal :=
  s.onBank (Bank.takeSetSpeedTable tag p)
/-- SET_ACTION_TABLE. -/
def execSetActionTable (tag : Byte) (p : List Byte) (s : State) : Host.Outcome State Fault Refusal :=
  s.onBank (Bank.takeSetActionTable tag p)
/-- SET_REPORT_LEVEL. -/
def execSetReportLevel (tag : Byte) (p : List Byte) (s : State) : Host.Outcome State Fault Refusal :=
  s.onBank (Bank.takeSetReportLevel tag p)
/-- READ_BANK. -/
def execReadBank (tag : Byte) (p : List Byte) (s : State) : Host.Outcome State Fault Refusal :=
  s.onBank (Bank.takeReadBank tag p)
/-- RESTART_BANK. -/
def execRestartBank (tag : Byte) (p : List Byte) (s : State) : Host.Outcome State Fault Refusal :=
  s.onBank (Bank.takeRestartBank tag p)
/-- READ_TUBE. -/
def execReadTube (tag : Byte) (p : List Byte) (s : State) : Host.Outcome State Fault Refusal :=
  s.onBank (Bank.takeReadTube tag p)
/-- READ_INTERLOCKS. -/
def execReadInterlocks (tag : Byte) (p : List Byte) (s : State) : Host.Outcome State Fault Refusal :=
  s.onBank (Bank.takeReadInterlocks tag p)
/-- UNKNOWN_KIND (R175). -/
def execUnknownKind (kind tag : Byte) (_ : List Byte) (s : State) : Host.Outcome State Fault Refusal :=
  s.onBank fun b => b.takeUnknown kind tag

/-! ## The receiver and the transmitter (R172 to R174, R177) -/

/-- CRC_ERROR (R174). -/
def execCrcError (s : State) : Host.Outcome State Fault Refusal := s.onBank Bank.crcMismatch
/-- INVALID_FRAME_LENGTH: the frame is discarded without a count and the receiver enters HUNT (R173), from whatever state it
is in (DESIGN CHOICE, notes/assumptions/9.md); a length that is none of those changes nothing. -/
def execInvalidFrameLength (n : Byte) (s : State) : Host.Outcome State Fault Refusal :=
  s.onBank fun b => if lengthInvalid n then b.receive .hunt else b
/-- RECEIVE_GAP: a frame in progress is discarded (R173). -/
def execReceiveGap (s : State) : Host.Outcome State Fault Refusal := s.onBank fun b => b.receive .hunt
/-- FRAMING_ERROR: the character is not taken and a frame in progress is discarded (R172, R173). -/
def execFramingError (s : State) : Host.Outcome State Fault Refusal := s.onBank fun b => b.receive .hunt
/-- TRANSMIT_COMPLETE (R177, R181). -/
def execTransmitComplete (s : State) : Host.Outcome State Fault Refusal := s.onBank Bank.transmitComplete
/-- CHARACTER_TAKEN (R173). -/
def execCharacterTaken (c : Byte) (s : State) : Host.Outcome State Fault Refusal := s.onBank (Bank.takeCharacter c)

/-! ## Supply and time (R182, R186) -/

/-- POWER_UP (R186 and the state table of every block). -/
def execPowerUp (s : State) : Host.Outcome State Fault Refusal := s.onBank Bank.powerUp
/-- BANK_TICK (R182). -/
def execBankTick (s : State) : Host.Outcome State Fault Refusal := s.onBank Bank.tick

/-! ## Expiries, samples and conversions (R17 to R20, R60 to R69, R77 to R87, R94 to R100, R122 to R139) -/

/-- RUN_ENGINE_EXPIRY (R17 to R20). -/
def execRunEngineExpiry (t : Tube) (s : State) : Host.Outcome State Fault Refusal :=
  s.onEvent (Bank.runEngineExpiry publish t)
/-- RAMP_EXPIRY (R60 to R69). -/
def execRampExpiry (t : Tube) (s : State) : Host.Outcome State Fault Refusal := s.onEvent (Bank.rampExpiry publish t)
/-- ZONE_LOOP_EXPIRY (R77 to R87). -/
def execZoneLoopExpiry (t : Tube) (s : State) : Host.Outcome State Fault Refusal := s.onEvent (Bank.zoneLoopExpiry t)
/-- GAS_SAMPLE (R122 to R135, R139). -/
def execGasSample (t : Tube) (returns : Vector FlowReturn 6) (s : State) : Host.Outcome State Fault Refusal :=
  s.onEvent (Bank.gasSample publish t returns)
/-- TC_CONVERSION (R94 to R100). -/
def execTcConversion (input : Option Int) (s : State) : Host.Outcome State Fault Refusal :=
  s.onEvent (Bank.tcConversion publish input)

/-! ## Inputs and drives (R143, R147, R153, R159, R162, R166) -/

/-- INTERLOCK_INPUT_CHANGE (R162). -/
def execInterlockInputChange (g : Group) (i : Input) (closed : Bool) (s : State) : Host.Outcome State Fault Refusal :=
  s.onBank fun b => b.modGroup g fun x => x.pin i closed
/-- INTERLOCK_INPUT_TAKEN (R162, R166). -/
def execInterlockInputTaken (g : Group) (i : Input) (s : State) : Host.Outcome State Fault Refusal :=
  s.onEvent (Bank.takeInput publish g i)
/-- SEAL_SENSOR_CHANGE (R159). -/
def execSealSensorChange (t : Tube) (closed : Bool) (s : State) : Host.Outcome State Fault Refusal :=
  s.onBank fun b => b.modBoat t fun x => x.sensorPin closed
/-- SEAL_SENSOR_TAKEN (R159). -/
def execSealSensorTaken (t : Tube) (s : State) : Host.Outcome State Fault Refusal := s.onEvent (Bank.takeSensor publish t)
/-- PADDLE_STEP (R143, R147, R151, R153, R156). -/
def execPaddleStep (t : Tube) (s : State) : Host.Outcome State Fault Refusal := s.onEvent (Bank.paddleStep publish t)
/-- MARK_READ (R147, R151, R153, R156). -/
def execMarkRead (t : Tube) (mark : Nat) (s : State) : Host.Outcome State Fault Refusal :=
  s.onEvent (Bank.markRead publish t mark)

end Sys2Proof.Machine
end

