-- ==== Sys2Proof/Machine/Dispatch.lean ====
section
/-! DEFINITION. The meaning of every command: one arm per constructor of Instr. -/

namespace Sys2Proof.Machine

/-- A command's effect on everything but the queue of waiting commands. -/
def exec (i : Instr) (s : State) : Host.Outcome State Fault Refusal :=
  match i with
  | .powerUp => Sys2Proof.Machine.execPowerUp s
  | .loadSteps tag payload => Sys2Proof.Machine.execLoadSteps tag payload s
  | .clearSteps tag payload => Sys2Proof.Machine.execClearSteps tag payload s
  | .readSteps tag payload => Sys2Proof.Machine.execReadSteps tag payload s
  | .startRun tag payload => Sys2Proof.Machine.execStartRun tag payload s
  | .abortRun tag payload => Sys2Proof.Machine.execAbortRun tag payload s
  | .resetTube tag payload => Sys2Proof.Machine.execResetTube tag payload s
  | .hold tag payload => Sys2Proof.Machine.execHold tag payload s
  | .release tag payload => Sys2Proof.Machine.execRelease tag payload s
  | .setIdleTemperature tag payload => Sys2Proof.Machine.execSetIdleTemperature tag payload s
  | .configureZones tag payload => Sys2Proof.Machine.execConfigureZones tag payload s
  | .setPowerLimit tag payload => Sys2Proof.Machine.execSetPowerLimit tag payload s
  | .readReadings tag payload => Sys2Proof.Machine.execReadReadings tag payload s
  | .configureChannels tag payload => Sys2Proof.Machine.execConfigureChannels tag payload s
  | .setGasMap tag payload => Sys2Proof.Machine.execSetGasMap tag payload s
  | .setSupplyLimit tag payload => Sys2Proof.Machine.execSetSupplyLimit tag payload s
  | .setGateLimits tag payload => Sys2Proof.Machine.execSetGateLimits tag payload s
  | .configureRail tag payload => Sys2Proof.Machine.execConfigureRail tag payload s
  | .locateBoat tag payload => Sys2Proof.Machine.execLocateBoat tag payload s
  | .moveBoat tag payload => Sys2Proof.Machine.execMoveBoat tag payload s
  | .clearMotionFault tag payload => Sys2Proof.Machine.execClearMotionFault tag payload s
  | .setSpeedTable tag payload => Sys2Proof.Machine.execSetSpeedTable tag payload s
  | .setActionTable tag payload => Sys2Proof.Machine.execSetActionTable tag payload s
  | .setReportLevel tag payload => Sys2Proof.Machine.execSetReportLevel tag payload s
  | .readBank tag payload => Sys2Proof.Machine.execReadBank tag payload s
  | .restartBank tag payload => Sys2Proof.Machine.execRestartBank tag payload s
  | .readTube tag payload => Sys2Proof.Machine.execReadTube tag payload s
  | .readInterlocks tag payload => Sys2Proof.Machine.execReadInterlocks tag payload s
  | .unknownKind kind tag payload => Sys2Proof.Machine.execUnknownKind kind tag payload s
  | .crcError => Sys2Proof.Machine.execCrcError s
  | .invalidFrameLength n => Sys2Proof.Machine.execInvalidFrameLength n s
  | .receiveGap => Sys2Proof.Machine.execReceiveGap s
  | .framingError => Sys2Proof.Machine.execFramingError s
  | .transmitComplete => Sys2Proof.Machine.execTransmitComplete s
  | .runEngineExpiry tube => Sys2Proof.Machine.execRunEngineExpiry tube s
  | .rampExpiry tube => Sys2Proof.Machine.execRampExpiry tube s
  | .zoneLoopExpiry tube => Sys2Proof.Machine.execZoneLoopExpiry tube s
  | .gasSample tube returns => Sys2Proof.Machine.execGasSample tube returns s
  | .tcConversion input => Sys2Proof.Machine.execTcConversion input s
  | .interlockInputChange group input closed => Sys2Proof.Machine.execInterlockInputChange group input closed s
  | .interlockInputTaken group input => Sys2Proof.Machine.execInterlockInputTaken group input s
  | .sealSensorChange tube closed => Sys2Proof.Machine.execSealSensorChange tube closed s
  | .sealSensorTaken tube => Sys2Proof.Machine.execSealSensorTaken tube s
  | .paddleStep tube => Sys2Proof.Machine.execPaddleStep tube s
  | .markRead tube mark => Sys2Proof.Machine.execMarkRead tube mark s
  | .characterTaken c => Sys2Proof.Machine.execCharacterTaken c s
  | .bankTick => Sys2Proof.Machine.execBankTick s

end Sys2Proof.Machine
end

