-- ==== Sys2Proof/Machine/Outputs.lean ====
section
/-! DEFINITION. What the bank drives at its analogue outputs: the MFC setpoint outputs (R119) and the heater drive outputs
(R85), each a proportion of full scale, read from the state at every moment. No command reads them back. -/

namespace Sys2Proof.Machine

/-- The MFC setpoint output of a channel: its effective setpoint as a proportion of the channel's full scale (R119); 0 while
CONFIGURE CHANNELS has not been accepted, where the effective setpoint is 0. -/
def Bank.mfcOutput (b : Bank) (t : Tube) (c : Channel) : Rat :=
  ((b.gas t).channels[c].effective : Rat) / (b.fullScale t c : Rat)

/-- The heater drive output of a zone: its delivered output as a proportion of full conduction (R85). -/
def Bank.heaterOutput (b : Bank) (t : Tube) (z : Zone) : Rat :=
  ((b.loops t)[z].delivered : Rat) / (Config.outputMax : Rat)

end Sys2Proof.Machine
end

