-- ==== Sys2Proof/Safety.lean ====
section
/-! DEFINITION. What the claims about the machine are stated in: the invariants a safe run keeps, the settings of the bank
and the commands that write them, and the frames that spell the request commands. -/

namespace Sys2Proof.Machine

/-! ## Requests and their frames -/

/-- The reply queue has room for one more reply (R175). -/
abbrev State.hasRoom (s : State) : Prop := s.bank.link.replies.length < Config.replyPlaces

/-- A payload of `n` characters whose first names tube `t`, taken with room for its reply. -/
abbrev State.takesTube (s : State) (p : List Byte) (n : Nat) (t : Tube) : Prop :=
  s.hasRoom ∧ p.length = n ∧ u8 p 0 = t.val + 1

/-- The tube has left UNCONFIGURED. -/
abbrev State.configured (s : State) (t : Tube) : Prop := (s.bank.run t).state ≠ .unconfigured

/-- The state after a request of kind `r` whose decision gave the bank `b` and the reply `reply`: the reply placed, the
waiters re-examined where the decision called for that, and its reports offered (R116, R176). -/
def State.decided (s : State) (r : Req) (tag : Byte) (b : Bank) (reply : List Byte) : State :=
  { s with bank := Bank.conclude (b, reply) (BitVec.ofNat 8 r.code) tag }

/-- The state after an event that left the bank `b`: the waiters re-examined where the event called for that, and the
reports of the event offered (R116, R178). -/
def State.after (s : State) (b : Bank) : State := { s with bank := b.close }

/-- The command that a good frame of a request kind is. -/
def Req.command (r : Req) (tag : Byte) (p : List Byte) : Instr :=
  match r with
  | .loadSteps => .loadSteps tag p
  | .clearSteps => .clearSteps tag p
  | .readSteps => .readSteps tag p
  | .startRun => .startRun tag p
  | .abortRun => .abortRun tag p
  | .resetTube => .resetTube tag p
  | .hold => .hold tag p
  | .release => .release tag p
  | .setIdleTemperature => .setIdleTemperature tag p
  | .configureZones => .configureZones tag p
  | .setPowerLimit => .setPowerLimit tag p
  | .readReadings => .readReadings tag p
  | .configureChannels => .configureChannels tag p
  | .setGasMap => .setGasMap tag p
  | .setSupplyLimit => .setSupplyLimit tag p
  | .setGateLimits => .setGateLimits tag p
  | .configureRail => .configureRail tag p
  | .locateBoat => .locateBoat tag p
  | .moveBoat => .moveBoat tag p
  | .clearMotionFault => .clearMotionFault tag p
  | .setSpeedTable => .setSpeedTable tag p
  | .setActionTable => .setActionTable tag p
  | .setReportLevel => .setReportLevel tag p
  | .readBank => .readBank tag p
  | .restartBank => .restartBank tag p
  | .readTube => .readTube tag p
  | .readInterlocks => .readInterlocks tag p

/-- The command that a good frame with a kind, a tag and a payload is. -/
def frameCommand (kind tag : Byte) (p : List Byte) : Instr :=
  match Req.ofCode kind.toNat with
  | none => .unknownKind kind tag p
  | some r => r.command tag p

end Sys2Proof.Machine

namespace Sys2Proof

open Sys2Proof.Machine

/-- The frame that a request command completes, all its characters; none for a command that is no request. -/
def Instr.frame : Instr → Option (List Byte)
  | .loadSteps tag p => some (frameChars 0x01 tag p)
  | .clearSteps tag p => some (frameChars 0x02 tag p)
  | .readSteps tag p => some (frameChars 0x03 tag p)
  | .startRun tag p => some (frameChars 0x04 tag p)
  | .abortRun tag p => some (frameChars 0x05 tag p)
  | .resetTube tag p => some (frameChars 0x06 tag p)
  | .hold tag p => some (frameChars 0x07 tag p)
  | .release tag p => some (frameChars 0x08 tag p)
  | .setIdleTemperature tag p => some (frameChars 0x09 tag p)
  | .configureZones tag p => some (frameChars 0x0A tag p)
  | .setPowerLimit tag p => some (frameChars 0x0B tag p)
  | .readReadings tag p => some (frameChars 0x0C tag p)
  | .configureChannels tag p => some (frameChars 0x0D tag p)
  | .setGasMap tag p => some (frameChars 0x0E tag p)
  | .setSupplyLimit tag p => some (frameChars 0x0F tag p)
  | .setGateLimits tag p => some (frameChars 0x10 tag p)
  | .configureRail tag p => some (frameChars 0x11 tag p)
  | .locateBoat tag p => some (frameChars 0x12 tag p)
  | .moveBoat tag p => some (frameChars 0x13 tag p)
  | .clearMotionFault tag p => some (frameChars 0x14 tag p)
  | .setSpeedTable tag p => some (frameChars 0x15 tag p)
  | .setActionTable tag p => some (frameChars 0x16 tag p)
  | .setReportLevel tag p => some (frameChars 0x17 tag p)
  | .readBank tag p => some (frameChars 0x18 tag p)
  | .restartBank tag p => some (frameChars 0x19 tag p)
  | .readTube tag p => some (frameChars 0x1A tag p)
  | .readInterlocks tag p => some (frameChars 0x1B tag p)
  | .unknownKind kind tag p => some (frameChars kind tag p)
  | .powerUp | .crcError | .invalidFrameLength _ | .receiveGap | .framingError | .transmitComplete | .runEngineExpiry _
  | .rampExpiry _ | .zoneLoopExpiry _ | .gasSample _ _ | .tcConversion _ | .interlockInputChange _ _ _
  | .interlockInputTaken _ _ | .sealSensorChange _ _ | .sealSensorTaken _ | .paddleStep _ | .markRead _ _
  | .characterTaken _ | .bankTick => none

end Sys2Proof

namespace Sys2Proof.Machine

/-- The characters of a list taken one after another; the run ends where a command does not answer a next state. -/
def feed : List Byte → State → Host.Outcome State Fault Refusal
  | [], s => .next s
  | c :: l, s =>
    match exec (.characterTaken c) s with
    | .next s' => feed l s'
    | .fault f => .fault f
    | .refused r => .refused r

/-! ## Lists that may stop partway -/

/-- Why record `r` cannot be stored into the slot with number `slot`, if it cannot (R6). -/
def RunEngine.loadStop (x : RunEngine) (slot : Nat) (r : ParsedRecord) : Option Status :=
  if 64 ≤ slot ∨ r.orphanOffsets = true ∨ r.record.legal slot = false then some .badField
  else if x.state = .running ∧ ∃ h, x.highWater = some h ∧ slot ≤ h.val then some .inUse
  else none

/-- What a slot holds once a record is stored into it: its loop counter is the count of its repeat part (R7). -/
def ParsedRecord.loaded (r : ParsedRecord) : SlotContent :=
  ⟨r.record, match r.record.repetition with | none => 0 | some q => q.count⟩

/-- The slots with records stored from `first` upward (R6). -/
def RunEngine.withRecords (x : RunEngine) (first : Nat) (l : List ParsedRecord) : RunEngine :=
  { x with slots := Vector.ofFn fun i =>
      if first ≤ i.val ∧ i.val < first + l.length then l[i.val - first]?.map ParsedRecord.loaded else x.slots[i] }

/-- The map entry a line character and a class character stand for, if they stand for one (R104, R188). -/
def sentEntry (e : Nat × Nat) : Option MapEntry :=
  match readLine e.1, readClass e.2 with
  | some line, some cls => some ⟨line, cls⟩
  | _, _ => none

/-- Why an entry cannot be written at the code with number `code`, if it cannot (R104, R105). -/
def Bank.mapStop (b : Bank) (code : Nat) (e : Nat × Nat) : Option Status :=
  match asFin 16 code, sentEntry e with
  | some c, some new => if ∃ t : Tube, b.mapInUse t c new = true then some .inUse else none
  | _, _ => some .badField

/-- The map with entries written from `first` upward. -/
def Bank.mapWith (b : Bank) (first : Nat) (l : List (Nat × Nat)) : Vector MapEntry 16 :=
  Vector.ofFn fun c =>
    if first ≤ c.val then ((l[c.val - first]?).bind sentEntry).getD b.gasMap[c] else b.gasMap[c]

/-- The codes from `first` upward that `n` entries are written to, each with the entry it had. -/
def Bank.formerEntries (b : Bank) (first n : Nat) : List (GasCode × MapEntry) :=
  (List.range n).filterMap fun k => (asFin 16 (first + k)).map fun c => (c, b.gasMap[c])

/-! ## A tube whose gas stands quiet, and a tube at its idle purge -/

/-- No channel of the tube is beyond its delay, and GAS_FLOW stands cleared: forming the effective setpoints, which only sets
timers to 0, then raises and clears nothing (R123, R124). -/
def Bank.calm (b : Bank) (t : Tube) : Prop :=
  (∀ c : Channel, (b.gas t).channels[c].deviation < Config.deviationMax) ∧ (b.gas t).deviating = false
    ∧ (b.gas t).levelAsked = 3

/-- No request waits at the Supply Budget, and the tube stands at its idle purge: its requested flows and allocations are
those of R109, nothing is uncovered, and each channel is driven to its requested flow. -/
def Bank.idling (b : Bank) (t : Tube) : Prop :=
  b.supply.waiters = [] ∧ b.setIdlePurge t = b
    ∧ ∀ c : Channel, (b.gas t).channels[c].effective = (b.gas t).channels[c].requested
      ∧ (0 < (b.gas t).channels[c].requested →
        (b.gas t).config.isSome ∧ (b.channelEntry t c).line.isSome ∧ b.channelClass t c = .inert)

/-! ## Settings and their writers -/

/-- The settings of the bank: what only certain commands write. -/
inductive Setting where
  | clock | gasMap | supplyLimits | gateLimits | powerLimit | actionTables | groups | readings | reportLevel
  | zones | channels | rails | speedTables | sensors | records
  deriving DecidableEq, Repr

/-- The records of a step list, without its loop counters. -/
def RunEngine.records (x : RunEngine) : Vector (Option StepRecord) 64 := x.slots.map fun c => c.map (·.record)

/-- A setting stands the same in two banks. -/
def Setting.same (k : Setting) (b b' : Bank) : Prop :=
  match k with
  | .clock => b'.clock = b.clock
  | .gasMap => b'.gasMap = b.gasMap
  | .supplyLimits => b'.supply.limits = b.supply.limits
  | .gateLimits => b'.threshold = b.threshold ∧ b'.ratio = b.ratio
  | .powerLimit => b'.powerLimit = b.powerLimit
  | .actionTables => b'.interlock.tables = b.interlock.tables
  | .groups => b'.interlock.groups = b.interlock.groups
  | .readings => b'.scanner.records = b.scanner.records ∧ b'.scanner.position = b.scanner.position
  | .reportLevel => b'.link.reportLevel = b.link.reportLevel
  | .zones => ∀ t, (b'.tube t).zonesConfig = (b.tube t).zonesConfig
  | .channels => ∀ t, (b'.gas t).config = (b.gas t).config
  | .rails => ∀ t, (b'.boat t).rail = (b.boat t).rail
  | .speedTables => ∀ t, (b'.boat t).table = (b.boat t).table
  | .sensors => ∀ t, (b'.boat t).sensorRaw = (b.boat t).sensorRaw ∧ (b'.boat t).sensor = (b.boat t).sensor
  | .records => ∀ t, (b'.run t).records = (b.run t).records

end Sys2Proof.Machine

namespace Sys2Proof

open Sys2Proof.Machine

/-- May the command write the setting? CHARACTER_TAKEN may complete a frame of any kind, so it is counted for all. -/
def Instr.mayWrite : Instr → Setting → Bool
  | .powerUp, _ | .restartBank _ _, _ | .characterTaken _, _ => true
  | .bankTick, k => k = .clock || k = .groups
  | .setGasMap _ _, k => k = .gasMap
  | .setSupplyLimit _ _, k => k = .supplyLimits
  | .setGateLimits _ _, k => k = .gateLimits
  | .setPowerLimit _ _, k => k = .powerLimit
  | .setActionTable _ _, k => k = .actionTables || k = .groups
  | .interlockInputChange _ _ _, k | .interlockInputTaken _ _, k => k = .groups
  | .tcConversion _, k => k = .readings
  | .setReportLevel _ _, k => k = .reportLevel
  | .configureZones _ _, k => k = .zones
  | .configureChannels _ _, k => k = .channels
  | .configureRail _ _, k => k = .rails
  | .setSpeedTable _ _, k => k = .speedTables
  | .sealSensorChange _ _, k | .sealSensorTaken _, k => k = .sensors
  | .loadSteps _ _, k | .clearSteps _ _, k => k = .records
  | .readSteps _ _, _ | .startRun _ _, _ | .abortRun _ _, _ | .resetTube _ _, _ | .hold _ _, _ | .release _ _, _
  | .setIdleTemperature _ _, _ | .readReadings _ _, _ | .locateBoat _ _, _ | .moveBoat _ _, _
  | .clearMotionFault _ _, _ | .readBank _ _, _ | .readTube _ _, _ | .readInterlocks _ _, _ | .unknownKind _ _ _, _
  | .crcError, _ | .invalidFrameLength _, _ | .receiveGap, _ | .framingError, _ | .transmitComplete, _
  | .runEngineExpiry _, _ | .rampExpiry _, _ | .zoneLoopExpiry _, _ | .gasSample _ _, _ | .paddleStep _, _
  | .markRead _ _, _ => false

end Sys2Proof

namespace Sys2Proof.Machine

/-! ## Invariants -/

/-- The configuration invariant: no tube whose three CONFIGURE requests have been accepted is UNCONFIGURED (R10). -/
def Bank.configSafe (b : Bank) : Prop :=
  ∀ t, (b.run t).state = .unconfigured → (b.tube t).marks ≠ (true, true, true)

/-- The power invariant: the grants stand within the bank limit and each within its demand, and each delivered output
within its output (R84, R89, R90). -/
def Bank.powerSafe (b : Bank) : Prop :=
  b.totalGrant ≤ b.powerLimit
    ∧ ∀ t, (b.share t).grant ≤ (b.share t).demand ∧ ∀ z : Zone, (b.loops t)[z].delivered ≤ (b.loops t)[z].output

/-- The link invariant: the queues within their places, an idle transmitter only beside empty queues, the counts within
their widths, and no report and no re-examination left over from an event (R116, R175, R177, R180, R186). -/
def Bank.linkSafe (b : Bank) : Prop :=
  b.link.replies.length ≤ Config.replyPlaces ∧ b.link.reports.length ≤ Config.reportPlaces
    ∧ (b.link.sending = none → b.link.replies = [] ∧ b.link.reports = [])
    ∧ (1 ≤ b.link.reportLevel ∧ b.link.reportLevel ≤ 7)
    ∧ b.link.discards ≤ Config.countMax ∧ b.link.crcErrors ≤ Config.countMax ∧ b.link.lost ≤ Config.countMax
    ∧ b.outbox = [] ∧ b.supply.due = false

/-- A hold level that can be asked. -/
abbrev heldLevel (L : Nat) : Prop := 1 ≤ L ∧ L ≤ 7

/-- The structures of one Hold Unit: the levels of the stack fall from its top to its bottom, the pending set holds one
entry per source at a level of 1..6, the level-7 condition set each source once, and every present source asked a level of
1..7 (R30, R31, R33, R46). -/
def HoldUnit.ordered (h : HoldUnit) : Prop :=
  (h.stack.map (·.level)).Pairwise (· > ·) ∧ (∀ f ∈ h.stack, heldLevel f.level)
    ∧ (h.pending.map (·.source.code)).Pairwise (· < ·) ∧ (∀ e ∈ h.pending, 1 ≤ e.level ∧ e.level ≤ 6)
    ∧ (h.level7.map Source.code).Pairwise (· < ·)
    ∧ ∀ i : Fin 12, h.records[i].present = true → heldLevel h.records[i].level

/-- The hold invariant: every Hold Unit is in order and has published its level, and the interlock levels are hold levels
(R31, R48, R164). -/
def Bank.holdSafe (b : Bank) : Prop :=
  (∀ t, (b.hold t).ordered ∧ (b.hold t).published = (b.hold t).level)
    ∧ (∀ g : Group, ∀ i : Fin 256, (b.interlock.tables[g])[i] ≤ 7) ∧ ∀ g : Group, (b.interlock.groups[g]).level ≤ 7

/-- The gate invariant: no FLAMMABLE channel has a nonzero effective setpoint while its tube's gate is closed, and a tube
whose CONFIGURE CHANNELS has not been accepted drives no channel (R119). -/
def Bank.gateSafe (b : Bank) : Prop :=
  ∀ t, ∀ c : Channel, 0 < (b.gas t).channels[c].effective →
    (b.gas t).config.isSome ∧ (b.channelClass t c = .flammable → (b.gate t).isOpen = true)

/-- The travel of a paddle at position `p`: its target lies on the rail, and the position has not passed it. -/
def Travel.underway (v : Travel) (r : Rail) (p : Nat) : Prop :=
  v.target ≤ r.inPos ∧ if v.inward then p ≤ v.target else v.target ≤ p

/-- The paddle invariant of one Boat Drive: positions and targets lie within 0 and the in-position; a paddle in motion is
locating, or travels with its target ahead; an UNLOCATED or locating paddle has no position (R143, R145, R146). -/
def Boat.onRail (x : Boat) : Prop :=
  match x.rail with
  | none => x.position = none ∧ x.order = none ∧ x.paddle = .unlocated ∧ x.locate = none
  | some r =>
    (∀ p, x.position = some p → p ≤ r.inPos) ∧ (∀ o, x.order = some o → o.target ≤ r.inPos)
      ∧ (x.paddle = .unlocated → x.position = none) ∧ (x.locating = true → x.position = none)
      ∧ (x.paddle = .stopped → x.position.isSome)
      ∧ (x.locate.isSome → x.paddle = .unlocated ∨ x.paddle = .moving)
      ∧ (x.paddle.inMotion = true → x.locating = false →
          ∃ v p, x.travel = some v ∧ x.position = some p ∧ v.underway r p)

/-- The paddle invariant: every Boat Drive is on its rail (R143). -/
structure Bank.PaddleSafe (b : Bank) : Prop where
  onRail : ∀ t, (b.boat t).onRail

end Sys2Proof.Machine
end

