-- ==== Sys2Proof/Laws/PerInstr.lean ====
section
/-! SUPPORT. Statements about every command, proved command by command. -/

namespace Sys2Proof.Laws.FrameLength

open Sys2Proof.Machine

/-- A well-formed request is spelled by a frame of 6 to 254 characters (R173). -/
def Statement (i : Instr) : Prop :=
  i.wellFormed = true → ∀ l, i.frame = some l → 6 ≤ l.length ∧ l.length ≤ 254

/-- A frame has six characters beside its payload: start, length, kind, tag and two CRC characters (11.1). -/
theorem frameChars_length (kind tag : Byte) (p : List Byte) : (frameChars kind tag p).length = p.length + 6 := by
  simp [frameChars, crcChars]

/-- A payload that fits makes a frame of 6 to 254 characters. -/
theorem of_payloadFits {kind tag : Byte} {p l : List Byte} (h : payloadFits p = true)
    (e : some (frameChars kind tag p) = some l) : 6 ≤ l.length ∧ l.length ≤ 254 := by
  have h : p.length ≤ 248 := of_decide_eq_true h
  cases e
  rw [frameChars_length]
  omega

theorem powerUp : Statement (.powerUp) := fun _ _ e => nomatch e

theorem loadSteps (t : Byte) (p : List Byte) : Statement (.loadSteps t p) := fun h _ e => of_payloadFits h e

theorem clearSteps (t : Byte) (p : List Byte) : Statement (.clearSteps t p) := fun h _ e => of_payloadFits h e

theorem readSteps (t : Byte) (p : List Byte) : Statement (.readSteps t p) := fun h _ e => of_payloadFits h e

theorem startRun (t : Byte) (p : List Byte) : Statement (.startRun t p) := fun h _ e => of_payloadFits h e

theorem abortRun (t : Byte) (p : List Byte) : Statement (.abortRun t p) := fun h _ e => of_payloadFits h e

theorem resetTube (t : Byte) (p : List Byte) : Statement (.resetTube t p) := fun h _ e => of_payloadFits h e

theorem hold (t : Byte) (p : List Byte) : Statement (.hold t p) := fun h _ e => of_payloadFits h e

theorem release (t : Byte) (p : List Byte) : Statement (.release t p) := fun h _ e => of_payloadFits h e

theorem setIdleTemperature (t : Byte) (p : List Byte) : Statement (.setIdleTemperature t p) := fun h _ e => of_payloadFits h e

theorem configureZones (t : Byte) (p : List Byte) : Statement (.configureZones t p) := fun h _ e => of_payloadFits h e

theorem setPowerLimit (t : Byte) (p : List Byte) : Statement (.setPowerLimit t p) := fun h _ e => of_payloadFits h e

theorem readReadings (t : Byte) (p : List Byte) : Statement (.readReadings t p) := fun h _ e => of_payloadFits h e

theorem configureChannels (t : Byte) (p : List Byte) : Statement (.configureChannels t p) := fun h _ e => of_payloadFits h e

theorem setGasMap (t : Byte) (p : List Byte) : Statement (.setGasMap t p) := fun h _ e => of_payloadFits h e

theorem setSupplyLimit (t : Byte) (p : List Byte) : Statement (.setSupplyLimit t p) := fun h _ e => of_payloadFits h e

theorem setGateLimits (t : Byte) (p : List Byte) : Statement (.setGateLimits t p) := fun h _ e => of_payloadFits h e

theorem configureRail (t : Byte) (p : List Byte) : Statement (.configureRail t p) := fun h _ e => of_payloadFits h e

theorem locateBoat (t : Byte) (p : List Byte) : Statement (.locateBoat t p) := fun h _ e => of_payloadFits h e

theorem moveBoat (t : Byte) (p : List Byte) : Statement (.moveBoat t p) := fun h _ e => of_payloadFits h e

theorem clearMotionFault (t : Byte) (p : List Byte) : Statement (.clearMotionFault t p) := fun h _ e => of_payloadFits h e

theorem setSpeedTable (t : Byte) (p : List Byte) : Statement (.setSpeedTable t p) := fun h _ e => of_payloadFits h e

theorem setActionTable (t : Byte) (p : List Byte) : Statement (.setActionTable t p) := fun h _ e => of_payloadFits h e

theorem setReportLevel (t : Byte) (p : List Byte) : Statement (.setReportLevel t p) := fun h _ e => of_payloadFits h e

theorem readBank (t : Byte) (p : List Byte) : Statement (.readBank t p) := fun h _ e => of_payloadFits h e

theorem restartBank (t : Byte) (p : List Byte) : Statement (.restartBank t p) := fun h _ e => of_payloadFits h e

theorem readTube (t : Byte) (p : List Byte) : Statement (.readTube t p) := fun h _ e => of_payloadFits h e

theorem readInterlocks (t : Byte) (p : List Byte) : Statement (.readInterlocks t p) := fun h _ e => of_payloadFits h e

theorem unknownKind (k t : Byte) (p : List Byte) : Statement (.unknownKind k t p) := fun h _ e =>
  of_payloadFits (Bool.and_eq_true _ _ ▸ h : _ ∧ _).1 e

theorem crcError : Statement (.crcError) := fun _ _ e => nomatch e

theorem invalidFrameLength a : Statement (.invalidFrameLength a) := fun _ _ e => nomatch e

theorem receiveGap : Statement (.receiveGap) := fun _ _ e => nomatch e

theorem framingError : Statement (.framingError) := fun _ _ e => nomatch e

theorem transmitComplete : Statement (.transmitComplete) := fun _ _ e => nomatch e

theorem runEngineExpiry a : Statement (.runEngineExpiry a) := fun _ _ e => nomatch e

theorem rampExpiry a : Statement (.rampExpiry a) := fun _ _ e => nomatch e

theorem zoneLoopExpiry a : Statement (.zoneLoopExpiry a) := fun _ _ e => nomatch e

theorem gasSample a b : Statement (.gasSample a b) := fun _ _ e => nomatch e

theorem tcConversion a : Statement (.tcConversion a) := fun _ _ e => nomatch e

theorem interlockInputChange a b c : Statement (.interlockInputChange a b c) := fun _ _ e => nomatch e

theorem interlockInputTaken a b : Statement (.interlockInputTaken a b) := fun _ _ e => nomatch e

theorem sealSensorChange a b : Statement (.sealSensorChange a b) := fun _ _ e => nomatch e

theorem sealSensorTaken a : Statement (.sealSensorTaken a) := fun _ _ e => nomatch e

theorem paddleStep a : Statement (.paddleStep a) := fun _ _ e => nomatch e

theorem markRead a b : Statement (.markRead a b) := fun _ _ e => nomatch e

theorem characterTaken a : Statement (.characterTaken a) := fun _ _ e => nomatch e

theorem bankTick : Statement (.bankTick) := fun _ _ e => nomatch e

end Sys2Proof.Laws.FrameLength
end

