-- ==== Sys2Proof/Certificates/Slice0/Obligations.lean ====
section
/-! DEFINITION. The statements about the FB-412, for the provers: what each command does, what it leaves, and what every
command keeps. A request's statements give the whole state after it: `s.decided r tag b reply` is the state in which the
decision has made the bank `b` and its reply `reply` has been placed, the reports of the decision after it (R176). -/

open Sys2Proof Sys2Proof.Machine

/-! ## The queue of commands -/

/-- The command in front of the queue is run on the state with the queue's rest; on an empty queue the block idles, which
is the model's choice (notes/assumptions/1.md). -/
def Obligations.StepTakesFront : Prop :=
  (∀ (c : Instr) (s : State), step { s with pending := c :: s.pending } = exec c s)
    ∧ ∀ s : State, s.pending = [] → step s = .next s

/-! ## The receiver (R172 to R174) -/

/-- What each character does in each state of the receiver, short of the judgement of a CRC; the four events that
discard a frame in progress, which leave the receiver in HUNT and change nothing else, the CRC error apart, which counts
up to 65535; and the CRC: the register run over a frame's characters and then over its two CRC characters ends at 0, the
nine characters 0x31 to 0x39 give 0x29B1, and the receiver takes a frame with the pair of CRC characters its sender
appends and no other (R172, R173, R174). That INVALID_FRAME_LENGTH has its effect in every state of the receiver is the
model's choice (notes/assumptions/9.md). -/
def Obligations.Receiver : Prop :=
  (∀ (s : State) (c : Byte),
    (s.bank.link.receiver = .hunt →
      exec (.characterTaken c) s = .next (if c = 0x5A then { s with bank := s.bank.receive .length } else s))
    ∧ (s.bank.link.receiver = .length → 2 ≤ c.toNat → c.toNat ≤ 250 →
      exec (.characterTaken c) s = .next { s with bank := s.bank.receive (.body c.toNat []) })
    ∧ (s.bank.link.receiver = .length → c.toNat < 2 ∨ 250 < c.toNat →
      exec (.characterTaken c) s = .next { s with bank := s.bank.receive .hunt })
    ∧ (∀ n kept, s.bank.link.receiver = .body n kept → kept.length + 1 < n →
      exec (.characterTaken c) s = .next { s with bank := s.bank.receive (.body n (kept ++ [c])) })
    ∧ (∀ n kept, s.bank.link.receiver = .body n kept → kept.length + 1 = n →
      exec (.characterTaken c) s = .next { s with bank := s.bank.receive (.check (kept ++ [c]) none) })
    ∧ ∀ kept, s.bank.link.receiver = .check kept none →
      exec (.characterTaken c) s = .next { s with bank := s.bank.receive (.check kept (some c)) })
  ∧ (∀ s : State,
    exec .crcError s = .next { s with bank := { s.bank with link := { s.bank.link with
      receiver := .hunt, crcErrors := min (s.bank.link.crcErrors + 1) 65535 } } }
    ∧ (∀ n : Byte, n.toNat < 2 ∨ 250 < n.toNat →
      exec (.invalidFrameLength n) s = .next { s with bank := s.bank.receive .hunt })
    ∧ exec .receiveGap s = .next { s with bank := s.bank.receive .hunt }
    ∧ exec .framingError s = .next { s with bank := s.bank.receive .hunt })
  ∧ (∀ l : List Byte, crc16 (l ++ crcChars (crc16 l)) = 0)
  ∧ crc16 [0x31, 0x32, 0x33, 0x34, 0x35, 0x36, 0x37, 0x38, 0x39] = 0x29B1
  ∧ ∀ (s : State) (kind tag first c : Byte) (p : List Byte), p.length ≤ 248 →
    s.bank.link.receiver = .check (kind :: tag :: p) (some first) →
    ([first, c] = crcChars (crc16 (BitVec.ofNat 8 (p.length + 2) :: kind :: tag :: p)) →
      exec (.characterTaken c) s = exec (frameCommand kind tag p) s)
    ∧ ([first, c] ≠ crcChars (crc16 (BitVec.ofNat 8 (p.length + 2) :: kind :: tag :: p)) →
      exec (.characterTaken c) s = exec .crcError s)

/-- The characters of a frame, taken one after another by a receiver in HUNT, are together the command the frame stands
for: no character of the kind, the tag or the payload is lost; and every request that is a well-formed command is a
frame of 6 to 254 characters (R173, R174, R175). -/
def Obligations.FramesSpellTheirCommands : Prop :=
  (∀ (s : State) (kind tag : Byte) (p : List Byte), p.length ≤ 248 → s.bank.link.receiver = .hunt →
    feed (frameChars kind tag p) s = exec (frameCommand kind tag p) s)
  ∧ ∀ i : Instr, Sys2Proof.Laws.FrameLength.Statement i

/-! ## Taking a request, its reply and the transmitter (R175 to R181) -/

/-- What is checked before a request reaches its owner. A request that finds 4 replies in the queue is not processed:
the discard count goes up, to 65535 at most. Then a payload length that does not match refuses with BAD_LENGTH, a tube
of 0 or above 4 with BAD_TUBE, and an UNCONFIGURED tube with BAD_STATE unless the kind is one of the five it admits; a
refusal changes nothing and carries its status alone. A good frame of no request kind is discarded without a trace
outside 0x01 to 0x7F, counted where the reply queue is full, and otherwise refused with UNKNOWN_KIND (R175, R176). -/
def Obligations.RequestsChecked : Prop :=
  (∀ (s : State) (r : Req) (tag : Byte) (p : List Byte), 4 ≤ s.bank.link.replies.length →
    exec (r.command tag p) s = .next { s with bank := { s.bank with link := { s.bank.link with
      receiver := .hunt, discards := min (s.bank.link.discards + 1) 65535 } } })
  ∧ (∀ (s : State) (r : Req) (tag : Byte) (p : List Byte), s.hasRoom →
    (r.lengthOk p = false → exec (r.command tag p) s = .next (s.decided r tag s.bank.hunting [0x11]))
    ∧ (r.lengthOk p = true → r.carriesTube = true → u8 p 0 = 0 ∨ 4 < u8 p 0 →
      exec (r.command tag p) s = .next (s.decided r tag s.bank.hunting [0x13]))
    ∧ (r.lengthOk p = true → r.carriesTube = true →
      r ∉ [Req.configureZones, .configureChannels, .configureRail, .readSteps, .readTube] →
      ∀ t : Tube, u8 p 0 = t.val + 1 → (s.bank.run t).state = .unconfigured →
        exec (r.command tag p) s = .next (s.decided r tag s.bank.hunting [0x14])))
  ∧ ∀ (s : State) (kind tag : Byte) (p : List Byte), isRequestKind kind = false →
    (kind.toNat = 0 ∨ 0x80 ≤ kind.toNat → exec (.unknownKind kind tag p) s = .next { s with bank := s.bank.hunting })
    ∧ (kind.toNat ≠ 0 → kind.toNat ≤ 0x7F → 4 ≤ s.bank.link.replies.length →
      exec (.unknownKind kind tag p) s = .next { s with bank := s.bank.hunting.discard })
    ∧ (kind.toNat ≠ 0 → kind.toNat ≤ 0x7F → s.hasRoom →
      exec (.unknownKind kind tag p) s = .next { s with bank := Bank.conclude (s.bank.hunting, [0x10]) kind tag })

/-- A decided request's reply, of its kind plus 0x80 and its tag, is sent at once by an idle transmitter and waits at the
tail of the reply queue otherwise, whatever reports its decision has created. Behind a busy transmitter the reports follow
the reply: those of the decision in the order of their creation, then those of a re-examination of waiters that it called
for, each dropped below the report level and dealt with by the report queue otherwise (R116, R176, R177, R178, R180). -/
def Obligations.ReplyThenReports : Prop :=
  (∀ (b : Bank) (kind tag : Byte) (reply : List Byte),
    (∀ frame, b.link.sending = some frame →
      (Bank.conclude (b, reply) kind tag).link.sending = some frame
        ∧ (Bank.conclude (b, reply) kind tag).link.replies = b.link.replies ++ [⟨kind + 0x80, tag, reply⟩])
    ∧ (b.link.sending = none → b.link.replies = [] →
      (Bank.conclude (b, reply) kind tag).link.sending = some (frameChars (kind + 0x80) tag reply)
        ∧ (Bank.conclude (b, reply) kind tag).link.replies = []))
  ∧ ∀ (b : Bank) (kind tag : Byte) (reply : List Byte), b.link.sending.isSome →
    let replied : Link := { b.link with replies := b.link.replies ++ [⟨kind + 0x80, tag, reply⟩] }
    ∃ later : List Report, (b.supply.due = false → later = [])
      ∧ (Bank.conclude (b, reply) kind tag).outbox = []
      ∧ (Bank.conclude (b, reply) kind tag).link =
        ((b.outbox ++ later).filter fun r => b.link.reportLevel ≤ r.level).foldl Link.queueReport replied

/-- The report queue's table: 64 places, room for a level-7 report made by taking out the oldest lesser one, every other
report keeping its place, and each loss counted up to 65535 (R180). -/
def Obligations.ReportQueueTable : Prop :=
  ∀ (l : Link) (r : Report),
    (l.reports.length < 64 → l.queueReport r = { l with reports := l.reports ++ [r] })
    ∧ (∀ older oldest newer, 64 ≤ l.reports.length → r.level = 7 → l.reports = older ++ oldest :: newer →
      (∀ x ∈ older, x.level = 7) → oldest.level < 7 →
      l.queueReport r = { l with reports := older ++ newer ++ [r], lost := min (l.lost + 1) 65535 })
    ∧ (64 ≤ l.reports.length → r.level < 7 ∨ (∀ x ∈ l.reports, x.level = 7) →
      l.queueReport r = { l with lost := min (l.lost + 1) 65535 })

/-- The end of a transmission: nothing where none was under way, else the oldest reply, else the oldest report with the
next sequence number, announced losses included, else an idle transmitter (R177, R181). That an end without a transmission
changes nothing is the model's choice (notes/assumptions/9.md). -/
def Obligations.TransmitCompletes : Prop :=
  ∀ s : State,
    (s.bank.link.sending = none → exec .transmitComplete s = .next s)
    ∧ (∀ frame, s.bank.link.sending = some frame →
      (∀ r rest, s.bank.link.replies = r :: rest →
        exec .transmitComplete s = .next { s with bank := { s.bank with link := { s.bank.link with
          replies := rest, sending := some (frameChars r.kind r.tag r.payload) } } })
      ∧ (∀ r rest, s.bank.link.replies = [] → s.bank.link.reports = r :: rest →
        s.bank.link.lost = 0 ∨ 62 < rest.length →
        exec .transmitComplete s = .next { s with bank := { s.bank with link := { s.bank.link with
          reports := rest, sending := some (frameChars 0x80 s.bank.link.sequence r.payload)
          sequence := s.bank.link.sequence + 1 } } })
      ∧ (∀ r rest, s.bank.link.replies = [] → s.bank.link.reports = r :: rest →
        0 < s.bank.link.lost → rest.length ≤ 62 →
        exec .transmitComplete s = .next { s with bank := { s.bank with link := { s.bank.link with
          reports := rest ++ [⟨s.bank.clock, none, .reportsLost, 7, some s.bank.link.lost, none, none⟩]
          sending := some (frameChars 0x80 s.bank.link.sequence r.payload)
          sequence := s.bank.link.sequence + 1, lost := 0 } } })
      ∧ (s.bank.link.replies = [] → s.bank.link.reports = [] →
        exec .transmitComplete s = .next { s with bank := { s.bank with link := { s.bank.link with sending := none } } }))

/-! ## Power-up, restart, time and settings (R27, R50, R73, R89, R90, R102, R126, R127, R140, R160, R171, R179, R182, R185, R186) -/

/-- POWER_UP leaves every block at the power-up values of its state table, one block of values after another. The pins
read as they stood, with the times they have stood started afresh, and every taken sensor and input reads open
(notes/assumptions/2.md); the flag that a step has been ACTIVE since its entry and MOTION_DONE are false and the travel
is none (notes/assumptions/17.md); the level GAS_FLOW asks is 3 (notes/assumptions/18.md): these are the model's
choices, in no state table but for the inputs' times (R171). RESTART BANK is refused while a tube is RUNNING or a paddle
in motion, and else leaves the power-up state, with a frame that is being sent left to finish and its OK reply placed in
the emptied reply queue (R185). BANK_TICK advances the clock by 1 with its wrap, brings a control period into force at
the first multiple of the stored P, and lets the times the pins have stood go on, which are kept in a unit of the
model's choice (notes/assumptions/6.md). -/
def Obligations.PowerAndTime : Prop :=
  (∀ s : State, exec .powerUp s = .next { s with bank := s.bank.powerUp }
    ∧ s.bank.powerUp.clock = 0 ∧ s.bank.powerUp.outbox = []
    ∧ s.bank.powerUp.link = ⟨.hunt, [], [], none, 1, 0, 0, 0, 0⟩
    ∧ s.bank.powerUp.powerLimit = 0 ∧ s.bank.powerUp.threshold = 0 ∧ s.bank.powerUp.ratio = 0
    ∧ (∀ c : GasCode, s.bank.powerUp.gasMap[c] = ⟨none, .inert⟩)
    ∧ (∀ l : Line, s.bank.powerUp.supply.limits[l] = 0 ∧ ∀ t, s.bank.powerUp.supply.allocated t l = 0)
    ∧ s.bank.powerUp.supply.waiters = [] ∧ s.bank.powerUp.supply.due = false
    ∧ (∀ c : TcChannel, s.bank.powerUp.scanner.records[c] = ⟨0, .opened, 0, none⟩)
    ∧ s.bank.powerUp.scanner.position = 0 ∧ (∀ t : Tube, s.bank.powerUp.tcPresent t = false)
    ∧ (∀ g : Group, s.bank.powerUp.group g = ⟨(s.bank.group g).raw, 0, 0, Vector.replicate 8 0⟩
      ∧ ∀ i : Fin 256, (s.bank.powerUp.interlock.tables[g])[i] = 0)
    ∧ ∀ t : Tube,
      (s.bank.powerUp.tube t).marks = (false, false, false) ∧ (s.bank.powerUp.tube t).period = none
      ∧ s.bank.powerUp.run t = ⟨.unconfigured, .none, none, 0, 0, none, none, false, .none, false, false, false,
          Vector.replicate 64 none⟩
      ∧ s.bank.powerUp.hold t = ⟨[], [], [], Vector.replicate 12 ⟨false, 0⟩, false, 0⟩
      ∧ s.bank.powerUp.ramp t = ⟨.none, false, 0, 0, 0, Vector.replicate 3 ⟨0, 0, 0, true⟩, 0, false, 0⟩
      ∧ s.bank.powerUp.stable t = false
      ∧ (∀ z : Zone, (s.bank.powerUp.loops t)[z] = ⟨0, 0, true, false, false, false, 0⟩)
      ∧ s.bank.powerUp.share t = ⟨0, 0, false⟩
      ∧ (∀ c : Channel, (s.bank.powerUp.gas t).channels[c] = ⟨0, false, 0, 0, 0, 0⟩)
      ∧ (s.bank.powerUp.gas t).deviating = false ∧ (s.bank.powerUp.gas t).levelAsked = 3
      ∧ (s.bank.powerUp.gas t).stepVolume = 0
      ∧ s.bank.powerUp.gate t = ⟨false, 0, none, false, 0, 0, 0, Vector.replicate 6 false, false, false⟩
      ∧ s.bank.powerUp.boat t = ⟨none, .unlocated, none, none, none, none, none, false, false, 0, 15, 0,
          Vector.replicate 16 0, false, false, (s.bank.boat t).sensorRaw, false, 0⟩)
  ∧ (∀ (s : State) (tag : Byte), s.hasRoom →
    ((∃ t, (s.bank.run t).state = .running ∨ (s.bank.boat t).paddle = .moving ∨ (s.bank.boat t).paddle = .stopping) →
      exec (.restartBank tag []) s = .next (s.decided .restartBank tag s.bank.hunting [0x14]))
    ∧ ((∀ t, (s.bank.run t).state ≠ .running ∧ (s.bank.boat t).paddle ≠ .moving ∧ (s.bank.boat t).paddle ≠ .stopping) →
      exec (.restartBank tag []) s = .next (s.decided .restartBank tag
        { s.bank.powerUp with link := ⟨.hunt, [], [], s.bank.link.sending, 1, 0, 0, 0, 0⟩ } [0x00])))
  ∧ ∀ s : State, exec .bankTick s = .next { s with bank := { s.bank with
      clock := s.bank.clock + 1
      tubes := s.bank.tubes.map fun x => { x with
        period := (match x.zonesConfig with
          | none => x.period
          | some c => if (s.bank.clock + 1).toNat % c.period = 0 then some c.period else x.period)
        boat := { x.boat with sensorTime := min (x.boat.sensorTime + 5) 256 } }
      interlock := { s.bank.interlock with
        groups := s.bank.interlock.groups.map fun g => { g with debounce := g.debounce.map fun d => min (d + 5) 256 } } } }

/-- SET REPORT LEVEL: a level outside 1 to 7 refuses with BAD_FIELD, any other becomes the report level. SET GATE LIMITS:
BAD_FIELD outside its ranges, and otherwise the minimum temperature and the hydrogen ratio are replaced; no gate changes
before its next sample (R132, R179). -/
def Obligations.BankSettings : Prop :=
  (∀ (s : State) (tag : Byte) (p : List Byte), s.hasRoom → p.length = 1 →
    (u8 p 0 < 1 ∨ 7 < u8 p 0 → exec (.setReportLevel tag p) s = .next (s.decided .setReportLevel tag s.bank.hunting [0x12]))
    ∧ (1 ≤ u8 p 0 → u8 p 0 ≤ 7 →
      exec (.setReportLevel tag p) s = .next (s.decided .setReportLevel tag
        { s.bank.hunting with link := { s.bank.hunting.link with reportLevel := u8 p 0 } } [0x00])))
  ∧ ∀ (s : State) (tag : Byte) (p : List Byte), s.hasRoom → p.length = 5 →
    (s24 p 0 < 0 ∨ 140000 < s24 p 0 ∨ 2000 < u16 p 3 →
      exec (.setGateLimits tag p) s = .next (s.decided .setGateLimits tag s.bank.hunting [0x12]))
    ∧ (0 ≤ s24 p 0 → s24 p 0 ≤ 140000 → u16 p 3 ≤ 2000 →
      exec (.setGateLimits tag p) s = .next (s.decided .setGateLimits tag
        { s.bank.hunting with threshold := s24 p 0, ratio := u16 p 3 } [0x00]))

/-! ## Reading the bank and the tubes (R9, R72, R101, R170, R183, R184) -/

/-- READ READINGS changes nothing and returns the clock, the channel in conversion, and of each of the 25 records its
value, its status and bad count, and its last result (R101). -/
def Obligations.ReadReadings : Prop :=
  ∀ (s : State) (tag : Byte), s.hasRoom →
    exec (.readReadings tag []) s = .next (s.decided .readReadings tag s.bank.hunting
      (([0x00] : List Byte) ++ leBytes 4 s.bank.clock.toNat ++ leBytes 1 s.bank.scanner.position.val
        ++ s.bank.scanner.records.toList.flatMap fun r =>
          leBytes 3 r.value ++ leBytes 1 (16 * r.status.code + r.bad : Nat) ++ leBytes 3 (r.last.getD 0x800000)))

/-- READ BANK changes nothing and returns the items R183 lists, in the layout of R189. -/
def Obligations.ReadBank : Prop :=
  ∀ (s : State) (tag : Byte), s.hasRoom →
    exec (.readBank tag []) s = .next (s.decided .readBank tag s.bank.hunting
      (([0x00] : List Byte) ++ leBytes 4 s.bank.clock.toNat
        ++ allTubes.flatMap (fun t => leBytes 1 (16 * (s.bank.run t).state.code + (s.bank.hold t).level : Nat))
        ++ leBytes 2 s.bank.powerLimit
        ++ allTubes.flatMap (fun t => leBytes 2 (s.bank.share t).demand ++ leBytes 2 (s.bank.share t).grant
            ++ leBytes 1 (if (s.bank.share t).limited then 1 else 0))
        ++ allLines.flatMap (fun l => leBytes 3 (s.bank.supply.limits[l] : Nat)
            ++ allTubes.flatMap (fun t => leBytes 3 (s.bank.supply.allocated t l))
            ++ ([0, 1, 2, 3] : List Nat).flatMap fun k =>
              leBytes 1 (match (s.bank.supply.queue l)[k]? with | none => 0 | some t => t.val + 1))
        ++ s.bank.gasMap.toList.flatMap (fun e =>
            leBytes 1 ((match e.line with | none => 15 | some l => l.val) + 16 * e.cls.code : Nat))
        ++ leBytes 3 s.bank.threshold ++ leBytes 2 s.bank.ratio
        ++ leBytes 1 s.bank.link.reportLevel ++ leBytes 1 s.bank.link.replies.length
        ++ leBytes 1 s.bank.link.reports.length
        ++ leBytes 2 s.bank.link.discards ++ leBytes 2 s.bank.link.crcErrors ++ leBytes 2 s.bank.link.lost))

/-- READ INTERLOCKS changes nothing and returns the clock, each group's byte, level and raw pattern, and each tube's
first-interlock summary, which is that of the first group in the scan order whose level is above 0, in the layout of R189
(R168, R170). That an absent summary is sent as 0xFF 0x00 0x00 is the model's choice (notes/assumptions/46.md). -/
def Obligations.ReadInterlocks : Prop :=
  ∀ (s : State) (tag : Byte), s.hasRoom →
    exec (.readInterlocks tag []) s = .next (s.decided .readInterlocks tag s.bank.hunting
      (([0x00] : List Byte) ++ leBytes 4 s.bank.clock.toNat
        ++ s.bank.interlock.groups.toList.flatMap (fun g => [g.byte] ++ leBytes 1 g.level ++ [g.raw])
        ++ allTubes.flatMap fun t =>
          let named (number : Nat) (g : Group) : List Byte :=
            leBytes 1 number ++ [(s.bank.group g).byte] ++ leBytes 1 (s.bank.group g).level
          if 0 < (s.bank.group 0).level then named 0 0
          else if 0 < (s.bank.group 1).level then named 1 1
          else if 0 < (s.bank.group ⟨2 + 2 * t.val, by omega⟩).level then named 2 ⟨2 + 2 * t.val, by omega⟩
          else if 0 < (s.bank.group ⟨3 + 2 * t.val, by omega⟩).level then named 3 ⟨3 + 2 * t.val, by omega⟩
          else [0xFF, 0x00, 0x00]))

/-- READ STEPS changes nothing: a starting index above 63 is refused, and otherwise the reply returns the slots from it
upward, each whole, as many as fit in one frame, with the index that follows the last (R9). That it carries no clock is
the model's reading of R189 against R182 (notes/assumptions/53.md). -/
def Obligations.ReadSteps : Prop :=
  ∀ (s : State) (tag : Byte) (p : List Byte) (t : Tube), s.takesTube p 2 t →
    (63 < u8 p 1 → exec (.readSteps tag p) s = .next (s.decided .readSteps tag s.bank.hunting [0x12]))
    ∧ (u8 p 1 ≤ 63 → ∃ n : Nat, u8 p 1 + n ≤ 64 ∧
      ∃ items : List Byte, items = (((s.bank.run t).slots.toList.drop (u8 p 1)).take n).flatMap slotBytes
      ∧ exec (.readSteps tag p) s = .next (s.decided .readSteps tag s.bank.hunting
          (([0x00] : List Byte) ++ leBytes 1 (u8 p 1) ++ leBytes 1 (u8 p 1 + n : Nat) ++ leBytes 1 n ++ items))
      ∧ items.length ≤ 244
      ∧ ∀ i : Slot, i.val = u8 p 1 + n → 244 < items.length + (slotBytes (s.bank.run t).slots[i]).length)

/-- READ TUBE changes nothing: it returns the clock, the part and the part's items, which fit in one frame, and a part
outside RUN, HOLDS, HEAT, GAS and BOAT is refused (R184). The items of RUN are those of R27, of HOLDS those of R50 and
the six conditions of R184, of HEAT those of R72 and R89, of GAS those of R126 and R140, and of BOAT those of R160, with
the widths of R187, lists after their counts, 0xFF or 0xFFFF for an item that is none, and a flag 0 for a configuration
not accepted (R192). The places of some items within a part and the spelling of some absent ones are the model's choice
(notes/assumptions/11.md), as are which of two named states is sent as 1 (notes/assumptions/55.md) and the order of the
level-7 condition set and of the source records (notes/assumptions/57.md); the bound on a volume
(notes/assumptions/28.md) and the items READ STEPS and READ BANK return in place of READ TUBE (notes/assumptions/31.md)
are its readings. -/
def Obligations.ReadTube : Prop :=
  (∀ (s : State) (tag : Byte) (p : List Byte) (t : Tube), s.takesTube p 2 t →
    (4 < u8 p 1 → exec (.readTube tag p) s = .next (s.decided .readTube tag s.bank.hunting [0x12]))
    ∧ ∀ items, [s.bank.runBytes t, s.bank.holdsBytes t, s.bank.heatBytes t, s.bank.gasBytes t, s.bank.boatBytes t][u8 p 1]?
        = some items →
      exec (.readTube tag p) s = .next (s.decided .readTube tag s.bank.hunting
        (([0x00] : List Byte) ++ leBytes 4 s.bank.clock.toNat ++ leBytes 1 (u8 p 1) ++ items))
      ∧ ((s.bank.hold t).ordered → 6 + items.length ≤ 248))
  ∧ ∀ (b : Bank) (t : Tube),
    let flag (f : Bool) : List Byte := if f then [0x01] else [0x00]
    let slot (i : Option Slot) : List Byte := match i with | none => [0xFF] | some i => leBytes 1 i.val
    let place (n : Option Nat) : List Byte := match n with | none => [0xFF, 0xFF] | some n => leBytes 2 n
    let volume (units : Nat) : List Byte := leBytes 4 (min (units / 240) 4294967295 : Nat)
    let cdeg (accumulated : Int) : List Byte := leBytes 3 ((accumulated + 32768) / 65536)
    let x := b.run t
    let y := b.boat t
    let h := b.hold t
    let r := b.ramp t
    let g := b.gas t
    let v := b.gate t
    b.runBytes t = leBytes 1 x.state.code
      ++ flag (b.tube t).zonesConfig.isSome ++ flag g.config.isSome ++ flag y.rail.isSome
      ++ leBytes 1 x.phase.code ++ slot x.step ++ leBytes 4 x.stepClock ++ leBytes 4 x.maxClock ++ slot x.highWater
      ++ slot x.abortIndex ++ flag x.abortPath ++ leBytes 1 x.outcome.code ++ flag x.stepTime ++ flag x.hostAbort
    ∧ b.holdsBytes t = leBytes 1 h.stack.length
      ++ h.stack.reverse.flatMap (fun f => leBytes 1 f.level ++ leBytes 1 f.source.code ++ leBytes 4 f.taken.toNat
          ++ slot f.step ++ flag f.present)
      ++ leBytes 1 h.pending.length
      ++ h.pending.flatMap (fun e => leBytes 1 e.source.code ++ leBytes 1 e.level ++ leBytes 4 e.made.toNat ++ flag e.present)
      ++ leBytes 1 h.level7.length ++ h.level7.flatMap (fun q => leBytes 1 q.code)
      ++ (let owners : List Source := allSources.filter fun q =>
            q ≠ .host ∧ (q ∈ h.stack.map (·.source) ∨ q ∈ h.pending.map (·.source))
          leBytes 1 owners.length ++ owners.flatMap fun q =>
            leBytes 1 q.code ++ flag (h.sourceRecord q).present ++ leBytes 1 (h.sourceRecord q).level)
      ++ flag h.window ++ leBytes 1 h.level
      ++ flag (decide (∃ z : Zone, (b.loops t)[z].overtemp = true ∨ (b.loops t)[z].failed = true))
      ++ flag (b.tcPresent t) ++ flag g.deviating ++ flag v.lost ++ flag y.motion ++ flag r.lag
    ∧ b.heatBytes t = leBytes 1 r.kind.code ++ flag r.inProgress ++ leBytes 2 r.rate ++ leBytes 3 r.band ++ leBytes 2 r.lagLimit
      ++ allZones.flatMap (fun z => cdeg r.zones[z].start ++ leBytes 3 r.zones[z].target ++ flag r.zones[z].reached
          ++ cdeg r.zones[z].accumulator)
      ++ leBytes 4 r.lagTimer ++ flag r.lag ++ leBytes 4 r.stabTimer ++ flag (b.stable t)
      ++ (match (b.tube t).zonesConfig with
        | none => [0x00]
        | some c => ([0x01] : List Byte) ++ leBytes 4 c.period ++ leBytes 3 c.safeTemp ++ leBytes 2 c.safeRate)
      ++ allZones.flatMap (fun z =>
          (match (b.tube t).zonesConfig with
          | none => []
          | some c => leBytes 3 c.zones[z].maxSetpoint ++ leBytes 2 c.zones[z].kp ++ leBytes 2 c.zones[z].ki
              ++ leBytes 2 c.zones[z].maxOutput ++ leBytes 2 c.zones[z].rating ++ leBytes 3 c.zones[z].overtempLimit)
          ++ leBytes 2 ((b.loops t)[z].integral / 65536 : Nat) ++ leBytes 2 (b.loops t)[z].output
          ++ flag (b.loops t)[z].frozen ++ flag (b.loops t)[z].forcedOff ++ flag (b.loops t)[z].overtemp
          ++ flag (b.loops t)[z].failed ++ leBytes 2 (b.loops t)[z].delivered
          ++ leBytes 3 (b.control t z).value ++ leBytes 1 (b.control t z).status.code)
      ++ leBytes 2 (b.share t).demand ++ leBytes 2 (b.share t).grant ++ flag (b.share t).limited
    ∧ b.gasBytes t = (match g.config with
        | none => [0x00]
        | some c => ([0x01] : List Byte) ++ leBytes 2 c.floor ++ leBytes 4 c.gateVolume)
      ++ allChannels.flatMap (fun k =>
          (match g.config with
          | none => []
          | some c => leBytes 1 c.channels[k].code.val ++ leBytes 2 c.channels[k].fullScale
              ++ leBytes 2 c.channels[k].tolerance ++ flag c.channels[k].purge)
          ++ leBytes 2 g.channels[k].requested ++ flag g.channels[k].uncovered ++ leBytes 2 g.channels[k].effective
          ++ leBytes 2 g.channels[k].measured ++ leBytes 4 g.channels[k].settle ++ leBytes 4 g.channels[k].deviation)
      ++ flag g.deviating ++ leBytes 1 g.levelAsked ++ volume g.stepVolume
      ++ flag v.sealed ++ volume v.credit ++ leBytes 4 (v.target.getD 0) ++ flag v.purgeDone
      ++ leBytes 4 v.oxidantTimer ++ leBytes 3 v.oxidantSetpoint ++ leBytes 3 v.oxidantMeasured
      ++ v.conditions.toList.flatMap flag ++ flag v.isOpen ++ flag v.lost
    ∧ b.boatBytes t = (match y.rail with
        | none => [0x00]
        | some r => ([0x01] : List Byte)
            ++ leBytes 2 r.length ++ leBytes 2 r.inPos ++ leBytes 2 r.doorZone ++ leBytes 2 r.doorSpeed ++ leBytes 2 r.locateSpeed)
      ++ leBytes 1 y.paddle.code ++ place y.position
      ++ (match y.order with
        | none => [0x00, 0xFF, 0xFF, 0x00, 0x00, 0xFF]
        | some o => leBytes 1 o.kind.code ++ leBytes 2 o.target ++ leBytes 2 o.speed ++ slot o.step)
      ++ flag y.locate.isSome ++ leBytes 2 (y.locate.getD 0)
      ++ (match y.stopping with
        | none => [0xFF, 0xFF, 0x00, 0xFF, 0xFF, 0xFF]
        | some q => leBytes 2 q.point ++ leBytes 1 q.kind.code ++ slot q.step ++ leBytes 2 q.target)
      ++ flag y.blocked ++ flag y.unlocWaiting ++ leBytes 2 y.speed ++ leBytes 1 y.band ++ leBytes 2 y.locateTravel
      ++ y.table.toList.flatMap (fun n => leBytes 2 (n : Nat))
      ++ flag y.motion ++ flag y.sensor ++ flag v.sealed ++ flag h.window

/-! ## Step lists and runs (R5 to R26) -/

/-- LOAD STEPS stores its records one after another into the slots from the starting index upward and stops at the first
that fails a check or meets a locked slot: those before it stay stored, the reply counts them and gives the reason (R6).
That a record which fails a check and meets a locked slot too is answered BAD_FIELD is the model's reading
(notes/assumptions/21.md). CLEAR STEPS empties all 64 slots of an IDLE or SAFE tube and leaves everything else; it is
refused with BAD_STATE on a RUNNING and on an UNCONFIGURED tube (R8). -/
def Obligations.StepList : Prop :=
  (∀ (s : State) (tag : Byte) (p : List Byte) (t : Tube) (good rest : List ParsedRecord),
    s.hasRoom → 3 ≤ p.length → u8 p 0 = t.val + 1 → s.configured t →
    parseRecords (u8 p 2) (p.drop 3) = some (good ++ rest) →
    (63 < u8 p 1 → exec (.loadSteps tag p) s = .next (s.decided .loadSteps tag s.bank.hunting [0x12]))
    ∧ (u8 p 1 ≤ 63 → (∀ k r, good[k]? = some r → (s.bank.run t).loadStop (u8 p 1 + k) r = none) →
      (rest = [] →
        exec (.loadSteps tag p) s = .next (s.decided .loadSteps tag
          (s.bank.hunting.modRun t fun x => x.withRecords (u8 p 1) good)
          (([0x00] : List Byte) ++ leBytes 1 good.length ++ leBytes 1 (u8 p 1 + good.length : Nat) ++ [0x00])))
      ∧ ∀ stop after reason, rest = stop :: after →
        (s.bank.run t).loadStop (u8 p 1 + good.length) stop = some reason →
        exec (.loadSteps tag p) s = .next (s.decided .loadSteps tag
          (s.bank.hunting.modRun t fun x => x.withRecords (u8 p 1) good)
          (([0x01] : List Byte) ++ leBytes 1 good.length ++ leBytes 1 (u8 p 1 + good.length : Nat) ++ leBytes 1 reason.code))))
  ∧ ∀ (s : State) (tag : Byte) (p : List Byte) (t : Tube), s.takesTube p 1 t →
    ((s.bank.run t).state = .running ∨ (s.bank.run t).state = .unconfigured →
      exec (.clearSteps tag p) s = .next (s.decided .clearSteps tag s.bank.hunting [0x14]))
    ∧ ((s.bank.run t).state = .idle ∨ (s.bank.run t).state = .safe →
      exec (.clearSteps tag p) s = .next (s.decided .clearSteps tag
        (s.bank.hunting.modRun t fun x => { x with slots := Vector.replicate 64 none }) [0x00]))

/-- A record that passes the checks is read from LOAD STEPS as it is returned by READ STEPS: walking its characters gives
the record back and leaves what follows it, and so for a list of records that ends the payload (R190). -/
def Obligations.RecordsAreReadAsWritten : Prop :=
  (∀ (r : StepRecord) (slot : Nat) (after : List Byte), slot ≤ 63 → r.legal slot = true →
    parseRecord (r.bytes ++ after) = some (⟨r, false⟩, after))
    ∧ ∀ l : List StepRecord, (∀ r ∈ l, ∃ slot, slot ≤ 63 ∧ r.legal slot = true) →
      parseRecords l.length (l.flatMap StepRecord.bytes) = some (l.map fun r => ⟨r, false⟩)

/-- START RUN: its checks in their order, a refused request changing nothing. Taken, the loop counters, the abort slot
and the outcome are set, the tube is RUNNING, a HOST order that waits is discarded, and the first step is entered; with
neither a gas part nor a motion part that step is ACTIVE at once, its thermal part started (R11, R12, R13, R15, R148).
-/
def Obligations.StartRun : Prop :=
  (∀ (s : State) (tag : Byte) (p : List Byte) (t : Tube), s.takesTube p 3 t →
    ((s.bank.run t).state ≠ .idle → exec (.startRun tag p) s = .next (s.decided .startRun tag s.bank.hunting [0x14]))
    ∧ ((s.bank.run t).state = .idle → (s.bank.hold t).stack ≠ [] →
      exec (.startRun tag p) s = .next (s.decided .startRun tag s.bank.hunting [0x14]))
    ∧ ((s.bank.run t).state = .idle → (s.bank.hold t).stack = [] →
      (63 < u8 p 1 ∨ (63 < u8 p 2 ∧ u8 p 2 ≠ 0xFF) ∨ (∃ i : Slot, i.val = u8 p 1 ∧ (s.bank.run t).slots[i] = none) →
        exec (.startRun tag p) s = .next (s.decided .startRun tag s.bank.hunting [0x12]))
      ∧ ∀ i : Slot, i.val = u8 p 1 → (u8 p 2 ≤ 63 ∨ u8 p 2 = 0xFF) → (s.bank.run t).slots[i] ≠ none →
        ((s.bank.boat t).paddle = .unlocated ∨ (s.bank.boat t).paddle = .fault →
          exec (.startRun tag p) s = .next (s.decided .startRun tag s.bank.hunting [0x18]))
        ∧ ((s.bank.boat t).paddle = .moving ∨ (s.bank.boat t).paddle = .stopping →
          exec (.startRun tag p) s = .next (s.decided .startRun tag s.bank.hunting [0x19]))))
  ∧ (∀ (s : State) (tag : Byte) (p : List Byte) (t : Tube) (i : Slot), s.takesTube p 3 t →
    (s.bank.run t).state = .idle → (s.bank.hold t).stack = [] → (s.bank.boat t).paddle = .stopped →
    i.val = u8 p 1 → (u8 p 2 ≤ 63 ∨ u8 p 2 = 0xFF) → (s.bank.run t).slots[i] ≠ none →
    let began : Bank := s.bank.hunting.modRun t fun x => { x with
      slots := x.slots.map fun y => y.map fun y =>
        { y with counter := match y.record.repetition with | none => 0 | some q => q.count }
      abortIndex := asFin 64 (u8 p 2)
      abortPath := false, outcome := .none, highWater := some i, state := .running }
    ((∀ o, (s.bank.boat t).order = some o → o.kind = .step) →
      exec (.startRun tag p) s = .next (s.decided .startRun tag (began.enterStep publish t i) [0x00]))
    ∧ ∀ o, (s.bank.boat t).order = some o → o.kind = .host → (s.bank.boat t).unlocWaiting = false →
      (s.bank.boat t).motion = false →
      exec (.startRun tag p) s = .next (s.decided .startRun tag
        ((began.modBoat t fun x => { x with order := none, blocked := x.blocked && x.locate.isSome }).enterStep publish t i)
        [0x00]))
  ∧ ∀ (s : State) (tag : Byte) (p : List Byte) (t : Tube) (i : Slot) (c : SlotContent), s.takesTube p 3 t →
    (s.bank.run t).state = .idle → (s.bank.hold t).stack = [] → (s.bank.boat t).paddle = .stopped →
    i.val = u8 p 1 → (u8 p 2 ≤ 63 ∨ u8 p 2 = 0xFF) → (s.bank.run t).slots[i] = some c →
    c.record.gas = none → c.record.motion = none → (s.bank.boat t).order = none → (s.bank.run t).stepTime = false →
    let count (r : StepRecord) : Nat := match r.repetition with | none => 0 | some q => q.count
    let entered : Bank := (s.bank.hunting.modRun t fun x => { x with
        slots := x.slots.map fun y => y.map fun y => { y with counter := count y.record }
        abortIndex := asFin 64 (u8 p 2)
        abortPath := false, outcome := .none, highWater := some i, state := .running, step := some i
        stepClock := 0, maxClock := 0, phase := .active, activated := true }).report (some t) .stepEntered
      (some i.val) (some (count c.record)) (some 0)
    let ramped : Bank := match c.record.thermal with
      | none => entered
      | some q => entered.startRamp t ⟨.step, q.target, q.rate, q.offsets.getD #v[0, 0, 0], q.band, q.lagLimit⟩
    exec (.startRun tag p) s = .next (s.decided .startRun tag
      (((((ramped.modRamp t fun r => { r with stabTimer := 0 }).modGas t fun g =>
        { g with stepVolume := 0 }).modGate t fun g => { g with target := c.record.purge, purgeDone := false }).report
          (some t) .stepActive (some i.val) (some 1))) [0x00])

/-- A step is entered: its index, the high-water mark, clocks of 0, WAIT_GAS, a present STEP_TIME cleared, and
STEP_ENTERED; then a gas part makes a STEP request of its flows, clamped to full scale and with the purge channel at its
floor at least, and a step without one becomes ACTIVE at once. The first time a step becomes ACTIVE its ramp starts, its
stabilization timer and step volume are set to 0, its motion part and purge target are handed on, and STEP_ACTIVE
follows; later only the phase changes and STEP_ACTIVE says "resumed" (R13, R15, R16, R110, R192). -/
def Obligations.StepEntry : Prop :=
  (∀ (b : Bank) (t : Tube) (i : Slot) (c : SlotContent), (b.run t).slots[i] = some c →
    let at' : Bank := b.modRun t fun x => { x with
      step := some i
      highWater := some (match x.highWater with | none => i | some h => if h < i then i else h)
      stepClock := 0, maxClock := 0, phase := .waitGas, activated := false }
    let timed : Bank := if (b.run t).stepTime = true
      then (at'.modRun t fun x => { x with stepTime := false }).clear t .stepTime else at'
    let entered : Bank := timed.report (some t) .stepEntered (some i.val) (some c.counter)
      (some (if (b.run t).abortPath then 1 else 0))
    (c.record.gas = none → b.enterStep publish t i = entered.becomeActive publish t)
    ∧ ∀ part, c.record.gas = some part →
      let listed (c : Channel) : Nat := match part.find? fun e => e.channel = c.val + 1 with | none => 0 | some e => e.flow
      let flows : Vector Nat 6 := Vector.ofFn fun c =>
        match (b.gas t).config with
        | none => 0
        | some g =>
          let flow : Nat := min (listed c) g.channels[c].fullScale
          if g.purgeChannel = some c then max flow g.floor else flow
      b.enterStep publish t i = entered.requestGas publish t .step flows)
  ∧ ∀ (pub : Publisher) (b : Bank) (t : Tube),
    (∀ i c, (b.run t).step = some i → (b.run t).slots[i] = some c → (b.run t).activated = false →
      let active : Bank := b.modRun t fun x => { x with phase := .active, activated := true }
      let ramped : Bank := match c.record.thermal with
        | none => active
        | some q => active.startRamp t ⟨.step, q.target, q.rate, q.offsets.getD #v[0, 0, 0], q.band, q.lagLimit⟩
      let timed : Bank := ramped.modRamp t fun r => { r with stabTimer := 0 }
      let moved : Bank := match c.record.motion with
        | none => timed
        | some q => timed.takeMotionPart pub t i q
      let purging : Bank := moved.modTube t fun x => { x with
        gas := { x.gas with stepVolume := 0 }
        gate := { x.gate with target := c.record.purge, purgeDone := false } }
      b.becomeActive pub t =
        purging.report (some t) .stepActive ((purging.run t).step.map fun i => (i.val : Int)) (some 1))
    ∧ ((b.run t).activated = true →
      b.becomeActive pub t = (b.modRun t fun x => { x with phase := .active }).report (some t) .stepActive
        ((b.run t).step.map fun i => (i.val : Int)) (some 0))

/-- ABORT RUN is refused outside RUNNING. Taken, it leaves the step without STEP_DONE: a waiting request leaves the
queues with a re-examination called for, STEP_TIME is cleared, an order that waits at rest is discarded, MOTION judged
again, and one whose paddle travels goes on as an order of a step no longer current. Every frame and then every pending
entry is discarded with HOLD_RELEASED of cause ABORT, and the hold level published. Then the abort step is entered with
RUN_ABORTED, where there is a filled abort slot not yet entered, and HOST_ABORT is raised at level 7 otherwise (R22,
R23, R24, R45, R116, R117, R149). Where nothing is held or pending, that goes by the state the request finds. The order
of these parts (notes/assumptions/30.md), the re-examination at the end of the command (notes/assumptions/47.md) and the
discard of an order beside a locate (notes/assumptions/25.md) are the model's reading; that an order behind a stopping
record is kept is its choice (notes/assumptions/52.md). -/
def Obligations.AbortRun : Prop :=
  ∀ (s : State) (tag : Byte) (p : List Byte) (t : Tube), s.takesTube p 1 t →
    ((s.bank.run t).state ≠ .running → exec (.abortRun tag p) s = .next (s.decided .abortRun tag s.bank.hunting [0x14]))
    ∧ ((s.bank.run t).state = .running →
      let x := s.bank.boat t
      let waits : Prop := x.order ≠ none ∧ ¬ ((x.paddle = .moving ∨ x.paddle = .stopping) ∧ x.locate = none)
      let stopped : Bank := s.bank.hunting.modRun t fun x => { x with phase := .none }
      let freed : Bank :=
        if s.bank.supply.waits t = true then { stopped with supply := { stopped.supply with
          waiters := stopped.supply.waiters.filter fun w => w.tube ≠ t, due := true } }
        else stopped
      let timed : Bank := if (s.bank.run t).stepTime = true
        then (freed.modRun t fun x => { x with stepTime := false }).clear t .stepTime else freed
      let orphaned : Bank := timed.modBoat t fun x => { x with
        order := x.order.map fun o => { o with current := false }, motionDone := false }
      let left : Bank := if waits then (orphaned.modBoat t fun x => { x with
        order := none, unlocWaiting := false, blocked := x.blocked && x.locate.isSome }).judgeMotion publish t else orphaned
      let released (x : Source) (L : Nat) : Report := ⟨s.bank.clock, some t, .holdReleased, 3, some x.code, some L, some 2⟩
      let emptied : Bank := { left.modHold t fun h => { h with stack := [], pending := [] } with
        outbox := left.outbox ++ (left.hold t).stack.map (fun f => released f.source f.level)
          ++ (left.hold t).pending.map fun e => released e.source e.level }
      let goes (x : RunEngine) (b : Bank) : Prop :=
        (∀ (i : Slot) (c : SlotContent), x.abortPath = false → x.abortIndex = some i → x.slots[i] = some c →
          exec (.abortRun tag p) s = .next (s.decided .abortRun tag
            (((b.modRun t fun x => { x with abortPath := true }).report (some t) .runAborted
              (some i.val) (x.step.map fun i => (i.val : Int))).enterStep publish t i) [0x00]))
        ∧ (x.abortPath = true ∨ x.abortIndex = none ∨ (∃ i, x.abortIndex = some i ∧ x.slots[i] = none) →
          exec (.abortRun tag p) s = .next (s.decided .abortRun tag
            ((b.modRun t fun x => { x with hostAbort := true }).raise publish t .hostAbort 7) [0x00]))
      goes ((publish t emptied).run t) (publish t emptied)
        ∧ ((s.bank.hold t).stack = [] → (s.bank.hold t).pending = [] → (s.bank.hold t).published = 0 →
          (x.paddle = .fault → x.motion = true) → goes (s.bank.run t) left))

/-- RESET TUBE is refused outside SAFE, and in SAFE while a member of the level-7 condition set is present. Taken, it
empties the Hold Unit with a report for each frame and entry, clears the forced-off flags and integrals, stops the ramp
with RAMP_LAG cleared, takes the purge target away, sets the tube to its idle purge and to IDLE, presents the standing
sources again and publishes the level (R26, R47, R63, R71, R88, R117); with no source standing and the tube at its idle
purge already, that is the state given last. On an empty stack with the window closed the sources are presented again
highest last level first, the lower source number between equal levels: the first is taken, each later one made pending
(R47). That the level is published once is the model's reading (notes/assumptions/40.md). -/
def Obligations.ResetTube : Prop :=
  (∀ (s : State) (tag : Byte) (p : List Byte) (t : Tube), s.takesTube p 1 t →
    let present (x : Source) : Prop := (x = .hostAbort ∧ (s.bank.run t).hostAbort = true)
      ∨ (x ≠ .hostAbort ∧ ((s.bank.hold t).sourceRecord x).present = true)
    let released (x : Source) (L : Nat) : Report := ⟨s.bank.clock, some t, .holdReleased, 3, some x.code, some L, some 3⟩
    let outbox : List Report := s.bank.outbox ++ (s.bank.hold t).stack.map (fun f => released f.source f.level)
      ++ (s.bank.hold t).pending.map fun e => released e.source e.level
    ((s.bank.run t).state ≠ .safe → exec (.resetTube tag p) s = .next (s.decided .resetTube tag s.bank.hunting [0x14]))
    ∧ ((s.bank.run t).state = .safe → (∃ x ∈ (s.bank.hold t).level7, present x) →
      exec (.resetTube tag p) s = .next (s.decided .resetTube tag s.bank.hunting [0x17]))
    ∧ ((s.bank.run t).state = .safe → (∀ x ∈ (s.bank.hold t).level7, ¬ present x) →
      let emptied : Bank := { (s.bank.hunting.modTube t fun x => { x with
          hold := { x.hold with stack := [], pending := [], level7 := [] }
          loops := x.loops.map fun l => { l with forcedOff := false, integral := 0 }
          ramp := { x.ramp with inProgress := false, lagTimer := 0, lag := false, stabTimer := 0 }
          gate := { x.gate with target := none, purgeDone := false } }) with outbox := outbox }
      let told : Bank := if (s.bank.ramp t).lag = true then emptied.clear t .rampLag else emptied
      exec (.resetTube tag p) s = .next (s.decided .resetTube tag
        (publish t (((told.idlePurge publish t).modRun t fun x => { x with state := .idle }).presentAgain t)) [0x00]))
    ∧ ((s.bank.run t).state = .safe → (s.bank.run t).hostAbort = false → (∀ i : Fin 12, (s.bank.hold t).records[i].present = false) →
      (s.bank.hold t).published = 7 → s.bank.idling t → (s.bank.ramp t).lag = false →
      (s.bank.boat t).order = none → (s.bank.boat t).paddle ≠ .stopping →
      exec (.resetTube tag p) s = .next (s.decided .resetTube tag
        { (s.bank.hunting.modTube t fun x => { x with
            run := { x.run with state := .idle }
            hold := { x.hold with stack := [], pending := [], level7 := [], published := 0 }
            loops := x.loops.map fun l => { l with forcedOff := false, integral := 0 }
            ramp := { x.ramp with inProgress := false, lagTimer := 0, stabTimer := 0 }
            gate := { x.gate with target := none, purgeDone := false } }) with outbox := outbox } [0x00])))
  ∧ ∀ (b : Bank) (t : Tube),
    let level (x : Source) : Nat := ((b.hold t).sourceRecord x).level
    let step : Option Slot := if (b.run t).state = .running then (b.run t).step else none
    let standing : List Source := ([6, 5, 4, 3, 2, 1] : List Nat).flatMap fun L =>
      allSources.filter fun x => ((b.hold t).sourceRecord x).present = true ∧ level x = L
    (b.hold t).stack = [] → (b.hold t).pending = [] → (b.hold t).window = false →
    (∀ i : Fin 12, (b.hold t).records[i].present = true → 1 ≤ (b.hold t).records[i].level ∧ (b.hold t).records[i].level ≤ 6) →
    (standing = [] → b.presentAgain t = b)
    ∧ ∀ x rest, standing = x :: rest → b.presentAgain t =
      rest.foldl (fun c y => (c.modHold t fun h => { h with
          pending := insertEntry ⟨y, level y, b.clock, true⟩ h.pending }).report (some t) .holdPending (some y.code)
            (some (level y)))
        ((b.modHold t fun h => { h with stack := [⟨level x, x, b.clock, step, true⟩] }).report (some t) .holdTaken
          (some x.code) (some (level x)) (step.map fun i => (i.val : Int)) (held := level x))

/-! ## Holds (R30 to R48) -/

/-- A raise by a source other than HOST, at a level of 1 to 7: its record and its frames and entry are marked present,
and the first row of the table decides. A taken request pushes its frame, reports HOLD_TAKEN and is published; a pended
one makes or raises its source's entry. A clear marks the record, the frames and the entry cleared and takes none away
(R30, R34 to R37). The place a source takes in the level-7 condition set is the model's choice
(notes/assumptions/57.md). -/
def Obligations.RaiseDecision : Prop :=
  (∀ (pub : Publisher) (b : Bank) (t : Tube) (x : Source) (i : Fin 12) (L : Nat), x.recordIx = some i → 1 ≤ L → L ≤ 7 →
    (b.hold t).level ≤ 7 →
    let owns : Prop := ∃ f ∈ (b.hold t).stack, f.source = x ∧ f.level = L
    let marked : Bank := b.modHold t fun h => { h with
      records := h.records.set i ⟨true, L⟩
      stack := h.stack.map fun f => if f.source = x then { f with present := true } else f
      pending := h.pending.map fun e => if e.source = x then { e with present := true } else e }
    let step : Option Slot := if (b.run t).state = .running then (b.run t).step else none
    (owns → b.raise pub t x L = marked)
    ∧ (¬ owns → L = 7 → (b.hold t).level = 7 →
      b.raise pub t x L = (marked.modHold t fun h => { h with level7 := insertSource x h.level7 }).report (some t)
        .level7Absorbed (some x.code))
    ∧ (¬ owns → (b.hold t).level < L → 6 ≤ L ∨ (b.hold t).window = false →
      b.raise pub t x L = pub t ((marked.modHold t fun h => { h with
          stack := ⟨L, x, b.clock, step, true⟩ :: h.stack
          pending := h.pending.filter fun e => !(e.source = x && e.level = L)
          level7 := if L = 7 then insertSource x h.level7 else h.level7 }).report (some t) .holdTaken (some x.code)
        (some L) (step.map fun i => (i.val : Int)) (held := L)))
    ∧ (¬ owns → L ≤ 6 → L ≤ (b.hold t).level ∨ (L ≤ 5 ∧ (b.hold t).window = true) →
      (∀ e, (b.hold t).entry x = some e → e.present = true → e.level < L →
        b.raise pub t x L = (marked.modHold t fun h => { h with
          pending := insertEntry { e with level := L } h.pending }).report (some t) .holdPending (some x.code) (some L))
      ∧ (∀ e, (b.hold t).entry x = some e → e.present = true → L ≤ e.level →
        b.raise pub t x L = marked.modHold t fun h => { h with pending := insertEntry e h.pending })
      ∧ ((∀ e, (b.hold t).entry x = some e → e.present = false) →
        b.raise pub t x L = (marked.modHold t fun h => { h with
          pending := insertEntry ⟨x, L, b.clock, true⟩ h.pending }).report (some t) .holdPending (some x.code) (some L))))
  ∧ ∀ (b : Bank) (t : Tube) (x : Source) (i : Fin 12), x.recordIx = some i →
    b.clear t x = b.modHold t fun h => { h with
      records := h.records.set i ⟨false, (h.records[i]).level⟩
      stack := h.stack.map fun f => if f.source = x then { f with present := false } else f
      pending := h.pending.map fun e => if e.source = x then { e with present := false } else e }

/-- HOLD: a level outside 1 to 6 is refused with BAD_FIELD; any other is decided as a raise by HOST, and the reply says
TAKEN, PENDING or HELD (R41, R34, R35, R37). -/
def Obligations.Hold : Prop :=
  ∀ (s : State) (tag : Byte) (p : List Byte) (t : Tube), s.takesTube p 2 t → s.configured t →
    (u8 p 1 < 1 ∨ 6 < u8 p 1 → exec (.hold tag p) s = .next (s.decided .hold tag s.bank.hunting [0x12]))
    ∧ ∀ L, L = u8 p 1 → 1 ≤ L → L ≤ 6 → (s.bank.hold t).level ≤ 7 →
      let owns : Prop := ∃ f ∈ (s.bank.hold t).stack, f.source = .host ∧ f.level = L
      let marked : Bank := s.bank.hunting.modHold t fun h => { h with
        stack := h.stack.map fun f => if f.source = .host then { f with present := true } else f
        pending := h.pending.map fun e => if e.source = .host then { e with present := true } else e }
      let step : Option Slot := if (s.bank.run t).state = .running then (s.bank.run t).step else none
      (owns → exec (.hold tag p) s = .next (s.decided .hold tag marked [0x00, 0x02]))
      ∧ (¬ owns → (s.bank.hold t).level < L → L = 6 ∨ (s.bank.hold t).window = false →
        exec (.hold tag p) s = .next (s.decided .hold tag (publish t ((marked.modHold t fun h => { h with
            stack := ⟨L, .host, s.bank.clock, step, true⟩ :: h.stack
            pending := h.pending.filter fun e => !(e.source = .host && e.level = L) }).report (some t) .holdTaken (some 0)
          (some L) (step.map fun i => (i.val : Int)) (held := L))) [0x00, 0x00]))
      ∧ (¬ owns → L ≤ (s.bank.hold t).level ∨ (L ≤ 5 ∧ (s.bank.hold t).window = true) →
        ((s.bank.hold t).entry .host = none →
          exec (.hold tag p) s = .next (s.decided .hold tag ((marked.modHold t fun h => { h with
            pending := insertEntry ⟨.host, L, s.bank.clock, true⟩ h.pending }).report (some t) .holdPending (some 0)
              (some L)) [0x00, 0x01]))
        ∧ ∀ e, (s.bank.hold t).entry .host = some e → e.present = true →
          (e.level < L →
            exec (.hold tag p) s = .next (s.decided .hold tag ((marked.modHold t fun h => { h with
              pending := insertEntry { e with level := L } h.pending }).report (some t) .holdPending (some 0) (some L))
                [0x00, 0x01]))
          ∧ (L ≤ e.level →
            exec (.hold tag p) s = .next (s.decided .hold tag (marked.modHold t fun h => { h with
              pending := insertEntry e h.pending }) [0x00, 0x01])))

/-- A re-examination of the pending set withdraws every cleared entry in order of source number, and then takes the
entry of the highest level, the lowest source number between equal levels, where that level lies above the hold level
and is 6 or the window is closed (R40). RELEASE: the top frame is popped, reported, the pending set re-examined and the
level published, unless it is at level 7 or its source's condition is present; a level that is not the top withdraws the
HOST entry at it or is refused with NOT_TOP (R42, R43, R44). That a re-examination takes one entry at most is the
model's reading of R40's repetition (notes/assumptions/39.md). -/
def Obligations.Release : Prop :=
  (∀ (b : Bank) (t : Tube),
    let h := b.hold t
    let step : Option Slot := if (b.run t).state = .running then (b.run t).step else none
    let withdrawn : Bank := { b.modHold t fun h => { h with pending := h.pending.filter fun e => e.present } with
      outbox := b.outbox ++ (h.pending.filter fun e => !e.present).map fun e =>
        ⟨b.clock, some t, .holdWithdrawn, 2, some e.source.code, some e.level, some 0⟩ }
    ((∀ e ∈ h.pending, e.present = false) → b.reexamineHolds t = withdrawn)
    ∧ ∀ e ∈ h.pending, e.present = true → 1 ≤ e.level → e.level ≤ 6 → (h.pending.map (·.source.code)).Pairwise (· < ·) →
      (∀ y ∈ h.pending, y.present = true →
        y.level < e.level ∨ (y.level = e.level ∧ e.source.code ≤ y.source.code)) →
      (h.level < e.level → e.level = 6 ∨ h.window = false →
        b.reexamineHolds t = (withdrawn.modHold t fun h => { h with
          stack := ⟨e.level, e.source, b.clock, step, true⟩ :: h.stack
          pending := h.pending.filter fun y => !(y.source = e.source && y.level = e.level) }).report (some t) .holdTaken
            (some e.source.code) (some e.level) (step.map fun i => (i.val : Int)) (held := e.level))
      ∧ (e.level ≤ h.level ∨ (e.level ≤ 5 ∧ h.window = true) → b.reexamineHolds t = withdrawn))
  ∧ ∀ (s : State) (tag : Byte) (p : List Byte) (t : Tube), s.takesTube p 2 t → s.configured t →
    (u8 p 1 < 1 ∨ 7 < u8 p 1 → exec (.release tag p) s = .next (s.decided .release tag s.bank.hunting [0x12]))
    ∧ ∀ L, L = u8 p 1 → 1 ≤ L → L ≤ 7 →
      (∀ f rest, (s.bank.hold t).stack = f :: rest → f.level = L →
        (L = 7 → exec (.release tag p) s = .next (s.decided .release tag s.bank.hunting [0x14]))
        ∧ (L ≤ 6 → f.source ≠ .host → f.present = true →
          exec (.release tag p) s = .next (s.decided .release tag s.bank.hunting [0x17]))
        ∧ (L ≤ 6 → f.source = .host ∨ f.present = false →
          exec (.release tag p) s = .next (s.decided .release tag
            (publish t (((s.bank.hunting.modHold t fun h => { h with stack := rest }).report (some t) .holdReleased
              (some f.source.code) (some L) (some 1)).reexamineHolds t)) [0x00])))
      ∧ ((∀ f rest, (s.bank.hold t).stack = f :: rest → f.level ≠ L) →
        (∀ e, (s.bank.hold t).entry .host = some e → e.level = L →
          exec (.release tag p) s = .next (s.decided .release tag
            ((s.bank.hunting.modHold t fun h => { h with pending := h.pending.filter fun e => e.source ≠ .host }).report
              (some t) .holdWithdrawn (some 0) (some L) (some 1)) [0x00]))
        ∧ ((∀ e, (s.bank.hold t).entry .host = some e → e.level ≠ L) →
          exec (.release tag p) s = .next (s.decided .release tag s.bank.hunting [0x16])))

/-! ## What a published hold level does (R25, R59, R111, R117, R121, R136, R157) -/

/-- A published hold level of 0 to 6, in a tube whose gas stands quiet: at 5 and 6 the tube is set to its idle purge, a
waiting request cancelled and one re-examination of the waiters called for; at 3 and 4 the effective setpoints are
formed again; from 3 an open gate closes with cause HOLD. Below 3 they are formed again, and a fall from 3 or more makes
a RENEWED request of a RUNNING tube that is ACTIVE with a gas part, or in WAIT_GAS with no request waiting, for its gas
part's flows or for the present ones. The Boat Drive responds last, unless a response has brought a newer level (R48,
R111, R117, R121, R136). The order among the responders (notes/assumptions/4.md) and the depth to which publications
nest, 31 below this one (notes/assumptions/3.md), are the model's choices; that a RENEWED request asks while its level
is still the one published (notes/assumptions/37.md) and that the re-examination is only called for here
(notes/assumptions/47.md) its readings. -/
def Obligations.LevelResponses : Prop :=
  (∀ (pub : Publisher) (b : Bank) (t : Tube),
    let flows : Vector Nat 6 := Vector.ofFn fun c =>
      match (b.gas t).config with
      | none => 0
      | some g => if g.purgeChannel = some c then g.floor else 0
    let v : Vector Nat 8 := Vector.ofFn fun l => sumChannels fun c =>
      if (b.channelEntry t c).line = some l then flows[c] else 0
    let purging : Bank := { b with supply := { b.supply with
      waiters := b.supply.waiters.filter fun w => w.tube ≠ t, alloc := b.supply.alloc.set t v } }
    b.idlePurge pub t = ((purging.modGas t fun g => { g with channels := Vector.ofFn fun c =>
      { g.channels[c] with requested := flows[c], uncovered := false } }).formEffective pub t).modSupply fun x =>
        { x with due := true })
  ∧ ∀ (b : Bank) (t : Tube), b.calm t → (b.hold t).level ≤ 6 → (b.hold t).level ≠ (b.hold t).published →
    let L : Nat := (b.hold t).level
    let old : Nat := (b.hold t).published
    let told : Bank := b.modHold t fun h => { h with published := L }
    let closed (b : Bank) : Bank :=
      if (b.gate t).isOpen = true then
        ((b.modGate t fun g => { g with isOpen := false }).report (some t) .gateClosed (some 2)).formEffective publish t
      else b
    let moved (b : Bank) : Bank := b.boatRespond (publishDown 31) t L
    let formed : Bank := told.formEffective publish t
    let part : Option (List GasEntry) :=
      (b.run t).step.bind fun i => (b.run t).slots[i].bind fun c => c.record.gas
    let renews : Prop := 3 ≤ old ∧ (b.run t).state = .running
      ∧ (((b.run t).phase = .active ∧ part ≠ none) ∨ ((b.run t).phase = .waitGas ∧ b.supply.waits t = false))
    (5 ≤ L → publish t b = moved (closed (told.idlePurge publish t)))
    ∧ (3 ≤ L → L ≤ 4 → publish t b = moved (closed formed))
    ∧ (L < 3 → ¬ renews → publish t b = moved formed)
    ∧ (L < 3 → renews → (b.run t).phase = .active ∨ (b.run t).activated = true →
      publish t b = moved (formed.requestGas publish t .renewed
        (match part with
          | none => (b.gas t).channels.map (·.requested)
          | some part => b.partFlows t part)))
    ∧ (L < 3 → renews →
      let asked : Bank := formed.requestGas (publishDown 31) t .renewed
        (match part with
          | none => (b.gas t).channels.map (·.requested)
          | some part => b.partFlows t part)
      publish t b = if (asked.hold t).published = L then moved asked else asked)

/-- A published hold level of 7 in an IDLE or RUNNING tube whose gas stands quiet, with nothing pending where the window
is open: a run is ended first, its request out of every queue, STEP_TIME and HOST_ABORT cleared, its outcome SAFED; the
tube is SAFE with SAFE_ENTERED, no purge target and its safe ramp started; it is set to its idle purge, an open gate
closes with cause HOLD, and the paddle stops at once, STOPPED where it stands or UNLOCATED out of a locate, with every
order discarded (R25, R59, R117, R121, R130, R136, R149, R157; the order among the responders is the model's choice,
notes/assumptions/4.md). -/
def Obligations.SafeEntry : Prop :=
  ∀ (b : Bank) (t : Tube) (c : ZonesConfig), (b.tube t).zonesConfig = some c →
    (b.run t).state = .idle ∨ (b.run t).state = .running → (b.hold t).level = 7 → (b.hold t).published ≠ 7 →
    ((b.hold t).window = true → (b.hold t).pending = []) → b.calm t →
    let stop (x : Boat) : Boat := { x with
      paddle := if x.paddle = .moving ∧ x.locate ≠ none then .unlocated
        else if x.paddle = .moving ∨ x.paddle = .stopping then .stopped else x.paddle
      locate := none, travel := none, stopping := none, order := none, unlocWaiting := false, blocked := false
      speed := if x.paddle = .moving ∨ x.paddle = .stopping then 0 else x.speed }
    (stop (b.boat t)).sealStands = (b.gate t).sealed →
    ((b.boat t).motion = true ↔ (b.boat t).paddle = .fault) →
    let step : Option Int := (b.run t).step.map fun i => (i.val : Int)
    let told : Bank := b.modHold t fun h => { h with published := 7 }
    let ended : Bank :=
      if (b.run t).state = .running then
        let freed : Bank := { told with supply := { told.supply with
          waiters := told.supply.waiters.filter fun w => w.tube ≠ t } }
        let timed : Bank := if (b.run t).stepTime = true
          then (freed.modRun t fun x => { x with stepTime := false }).clear t .stepTime else freed
        let cleared : Bank := if (b.run t).hostAbort = true
          then (timed.modRun t fun x => { x with hostAbort := false }).clear t .hostAbort else timed
        cleared.modTube t fun x => { x with
          run := { x.run with outcome := .safed, phase := .none, abortPath := false }
          boat := { x.boat with
            order := x.boat.order.map fun o => { o with current := false }
            motionDone := false } }
      else told
    let safe : Bank := (((ended.modRun t fun x => { x with state := .safe }).report (some t) .safeEntered
      ((b.hold t).stack.head?.map fun f => (f.source.code : Int)) (some (b.run t).state.code)
      (if (b.run t).state = .running then step else none)).modGate t fun g =>
        { g with target := none, purgeDone := false }).startRamp t ⟨.safe, c.safeTemp, c.safeRate, #v[0, 0, 0], 0, 0⟩
    let purged : Bank := safe.idlePurge publish t
    let closed : Bank :=
      if (b.gate t).isOpen = true then
        ((purged.modGate t fun g => { g with isOpen := false }).report (some t) .gateClosed (some 2)).formEffective publish t
      else purged
    publish t b = closed.modTube t fun x => { x with boat := stop x.boat, hold := { x.hold with window := false } }

/-- The Boat Drive at a published hold level. From 1 to 6 a paddle MOVING under a move order becomes STOPPING, and
nothing else changes; at 7 the paddle stops at once, the window and the seal follow, and every order is discarded; at 0
a STOPPING paddle goes back to MOVING with a new speed evaluation, and an order at rest starts afresh. The window and
the MOTION condition are told to the Hold Unit at each change (R39, R40, R154, R157, R158). At 0 a paddle under a
stopping record stays STOPPING (notes/assumptions/51.md), an evaluation of 0 brings a STOPPING paddle to rest where it
stands (notes/assumptions/10.md), and a level of 1 to 6 leaves an order at rest as it is, its blocked flag included
(notes/assumptions/54.md): these are the model's choices. That a stop at once leaves a speed of 0 is its reading
(notes/assumptions/23.md). -/
def Obligations.BoatResponses : Prop :=
  ∀ (pub : Publisher) (b : Bank) (t : Tube),
    let x := b.boat t
    let inMotion : Prop := x.paddle = .moving ∨ x.paddle = .stopping
    (∀ L, 1 ≤ L → L ≤ 6 →
      (x.paddle = .moving → x.locate = none →
        b.boatRespond pub t L = b.modBoat t fun x => { x with paddle := .stopping })
      ∧ (x.paddle ≠ .moving ∨ x.locate ≠ none → b.boatRespond pub t L = b))
    ∧ (let stopped : Bank := ((b.modBoat t fun x => { x with
          paddle := if x.paddle = .moving ∧ x.locate ≠ none then .unlocated else if inMotion then .stopped else x.paddle
          locate := none, travel := none, stopping := none, blocked := false
          speed := if inMotion then 0 else x.speed }).judgeWindow pub t).judgeSeal pub t
      b.boatRespond pub t 7 = (stopped.modBoat t fun x => { x with
        order := none, unlocWaiting := false, blocked := x.blocked && x.locate.isSome }).judgeMotion pub t)
    ∧ (x.paddle ≠ .stopping → b.boatRespond pub t 0 = b.startOrder pub t)
    ∧ (x.paddle = .stopping → x.stopping ≠ none → b.boatRespond pub t 0 = b)
    ∧ (∀ (r : Rail) (v : Travel) (p : Nat), x.paddle = .stopping → x.stopping = none → x.rail = some r →
      x.travel = some v → x.position = some p →
      let free : Nat := min v.asked x.table[b.speedBand t]
      let speed : Nat := if r.doorZone ≤ p ∧ p ≤ r.inPos then min free r.doorSpeed else free
      let evaluated : Bank := b.modBoat t fun x => { x with
        paddle := .moving, speed := speed, band := (b.speedBand t).val, travel := some { v with freeSpeed := free } }
      (0 < speed → b.boatRespond pub t 0 = evaluated)
      ∧ (speed = 0 → b.boatRespond pub t 0 = evaluated.comeToRest pub t true))
    ∧ (let opened : Prop := (x.paddle = .moving ∧ x.locate ≠ none)
        ∨ (inMotion ∧ ∃ r p, x.rail = some r ∧ x.position = some p ∧ r.doorZone ≤ p ∧ p ≤ r.inPos)
      ((opened ↔ (b.hold t).window = true) → b.judgeWindow pub t = b)
      ∧ (opened → (b.hold t).window = false → b.judgeWindow pub t = b.modHold t fun h => { h with window := true })
      ∧ (¬ opened → (b.hold t).window = true →
        b.judgeWindow pub t = pub t ((b.modHold t fun h => { h with window := false }).reexamineHolds t)))
    ∧ (let present : Prop := x.paddle = .fault ∨ x.unlocWaiting = true
      ((present ↔ x.motion = true) → b.judgeMotion pub t = b)
      ∧ (present → x.motion = false →
        b.judgeMotion pub t = (b.modBoat t fun x => { x with motion := true }).raise pub t .motion 5)
      ∧ (¬ present → x.motion = true →
        b.judgeMotion pub t = (b.modBoat t fun x => { x with motion := false }).clear t .motion))

/-! ## Temperature ramps (R52 to R69) -/

/-- A ramp start on a configured tube: targets clamped and the clamps reported, the ramp record replaced from the present
accumulators, RAMP_LAG cleared with the lag timer, and a rate-0 ramp whose advance is allowed gone straight to its targets
(R54, R55, R56, R60, R67). -/
def Obligations.RampStarts : Prop :=
  ∀ (b : Bank) (t : Tube) (o : RampOrder) (c : ZonesConfig), (b.tube t).zonesConfig = some c →
    let asked (z : Zone) : Int := o.target + o.offsets[z]
    let Z (z : Zone) : Int :=
      if asked z < 0 then 0 else if c.zones[z].maxSetpoint < asked z then c.zones[z].maxSetpoint else asked z
    let A (z : Zone) : Int := (b.ramp t).zones[z].accumulator
    let allowed : Prop := ((b.run t).state = .running ∧ (b.run t).phase = .active ∧ (b.hold t).stack = [])
      ∨ ((b.run t).state = .idle ∧ (b.hold t).stack = []) ∨ (b.run t).state = .safe
    let reported : Bank := { b with
      outbox := b.outbox ++ (allZones.filter fun z => Z z ≠ asked z).map fun z =>
        ⟨b.clock, some t, .targetClamped, 3, some (z.val + 1), some (asked z), some (Z z)⟩ }
    let settled (x : Bank) : Bank := if (b.ramp t).lag = true then x.clear t .rampLag else x
    let started (zones : Vector RampZone 3) (inProgress : Bool) : Bank := settled (reported.modRamp t fun r => { r with
      kind := o.kind, rate := o.rate, band := o.band, lagLimit := o.lagLimit, zones := zones
      inProgress := inProgress, lagTimer := 0, lag := false })
    (o.rate = 0 → allowed →
      b.startRamp t o = started (Vector.ofFn fun z => ⟨Z z * 65536, A z, Z z, true⟩) false)
    ∧ (o.rate ≠ 0 ∨ ¬ allowed →
      b.startRamp t o = started (Vector.ofFn fun z => ⟨A z, A z, Z z, decide (A z = Z z * 65536)⟩)
        (allZones.any fun z => A z ≠ Z z * 65536))

/-- SET IDLE TEMPERATURE is refused outside IDLE, and with BAD_FIELD outside its ranges; taken, it starts a ramp of kind
IDLE with its target and rate, no offsets, no band and no lag limit, whatever the hold stack holds (R58). -/
def Obligations.SetIdleTemperature : Prop :=
  ∀ (s : State) (tag : Byte) (p : List Byte) (t : Tube), s.takesTube p 6 t →
    ((s.bank.run t).state ≠ .idle →
      exec (.setIdleTemperature tag p) s = .next (s.decided .setIdleTemperature tag s.bank.hunting [0x14]))
    ∧ ((s.bank.run t).state = .idle → s24 p 1 < 0 ∨ 140000 < s24 p 1 ∨ 3000 < u16 p 4 →
      exec (.setIdleTemperature tag p) s = .next (s.decided .setIdleTemperature tag s.bank.hunting [0x12]))
    ∧ ((s.bank.run t).state = .idle → 0 ≤ s24 p 1 → s24 p 1 ≤ 140000 → u16 p 4 ≤ 3000 →
      exec (.setIdleTemperature tag p) s = .next (s.decided .setIdleTemperature tag
        (s.bank.hunting.startRamp t ⟨.idle, s24 p 1, u16 p 4, #v[0, 0, 0], 0, 0⟩) [0x00]))

/-- A control-period expiry at the Ramp Generator: the ramp jumps, passes its guaranteed-ramp test and advances by the
increment, fails it and lags, or makes the lag test, RAMP_LAG cleared with every lag timer set to 0; then the
stabilization timer is judged (R60 to R62, R64 to R68). That an expiry on a tube without CONFIGURE ZONES changes
nothing, and the period that expires while none is in force, are the model's reading (notes/assumptions/5.md). -/
def Obligations.RampExpiry : Prop :=
  ∀ (s : State) (t : Tube),
    ((s.bank.tube t).zonesConfig = none → exec (.rampExpiry t) s = .next (s.after s.bank))
    ∧ ∀ P : Nat, s.bank.expiringPeriod t = some P →
      let r := s.bank.ramp t
      let allowed : Prop := ((s.bank.run t).state = .running ∧ (s.bank.run t).phase = .active ∧ (s.bank.hold t).stack = [])
        ∨ ((s.bank.run t).state = .idle ∧ (s.bank.hold t).stack = []) ∨ (s.bank.run t).state = .safe
      let near (b : Bank) (z : Zone) (x : Int) : Prop :=
        (b.control t z).value - ((b.ramp t).zones[z].accumulator + 32768) / 65536 ≤ x
          ∧ ((b.ramp t).zones[z].accumulator + 32768) / 65536 - (b.control t z).value ≤ x
      let passes : Prop := ∀ z, (s.bank.control t z).status = .good → near s.bank z r.band
      let judged (b : Bank) : Bank :=
        match (b.currentRecord t).bind (·.stability) with
        | none => b
        | some q =>
          if (b.run t).state = .running ∧ (b.run t).phase = .active ∧ (b.hold t).stack = [] then
            let timer : Nat :=
              if ((b.ramp t).inProgress = false ∨ ∀ z : Zone, (b.ramp t).zones[z].reached = true)
                  ∧ ∀ z, (b.control t z).status = .good ∧ near b z q.band
              then min ((b.ramp t).stabTimer + P) 4294967295 else 0
            b.modRamp t fun r => { r with stabTimer := timer }
          else b
      let settled (b : Bank) : Bank :=
        if r.lag = true then (b.modRamp t fun r => { r with lagTimer := 0, lag := false }).clear t .rampLag
        else b.modRamp t fun r => { r with lagTimer := 0 }
      let I : Int := (((r.rate * P * 16 + 7) / 15 : Nat) : Int)
      let moved (z : RampZone) : RampZone :=
        if z.reached then z
        else if z.accumulator < z.target * 65536 then
          { z with accumulator := min (z.accumulator + I) (z.target * 65536)
                   reached := decide (z.target * 65536 ≤ z.accumulator + I) }
        else { z with accumulator := max (z.accumulator - I) (z.target * 65536)
                      reached := decide (z.accumulator - I ≤ z.target * 65536) }
      let ends : Bool := allZones.all fun z => (moved r.zones[z]).reached
      (r.inProgress = false → exec (.rampExpiry t) s = .next (s.after (judged s.bank)))
      ∧ (r.inProgress = true → allowed → r.rate = 0 →
        exec (.rampExpiry t) s = .next (s.after (judged (settled (s.bank.modRamp t fun r => { r with
          zones := r.zones.map fun z => if z.reached then z else { z with accumulator := z.target * 65536, reached := true }
          inProgress := false })))))
      ∧ (r.inProgress = true → allowed → r.rate ≠ 0 → r.band ≤ 0 ∨ passes →
        let advanced : Bank := s.bank.modRamp t fun r => { r with zones := r.zones.map moved, inProgress := !ends }
        exec (.rampExpiry t) s = .next (s.after (judged (if 0 < r.band ∨ ends then settled advanced else advanced))))
      ∧ (r.inProgress = true → allowed → r.rate ≠ 0 → 0 < r.band → ¬ passes →
        let timer : Nat := min (r.lagTimer + P) 4294967295
        (r.lagLimit = 0 ∨ timer < r.lagLimit * 1024 ∨ r.lag = true →
          exec (.rampExpiry t) s = .next (s.after (judged (s.bank.modRamp t fun r => { r with lagTimer := timer }))))
        ∧ (r.lagLimit ≠ 0 → r.lagLimit * 1024 ≤ timer → r.lag = false →
          exec (.rampExpiry t) s = .next (s.after (judged
            ((s.bank.modRamp t fun r => { r with lagTimer := timer, lag := true }).raise publish t .rampLag 4)))))
      ∧ (r.inProgress = true → ¬ allowed →
        (r.band ≤ 0 ∨ ¬ passes → exec (.rampExpiry t) s = .next (s.after (judged s.bank)))
        ∧ (0 < r.band → passes → exec (.rampExpiry t) s = .next (s.after (judged (settled s.bank)))))

/-! ## Zone loops and heater power (R74 to R87) -/

/-- CONFIGURE ZONES: refused in RUNNING, and with BAD_FIELD outside its ranges or where a maximum setpoint is not below
its zone's overtemperature limit. Taken, it stores its fields; as the third CONFIGURE request it takes the tube from
UNCONFIGURED to IDLE with its idle purge, or to SAFE at a hold level of 7, and the scanner judges the control channels;
then each output is lowered to the new maximum output, and its delivered output with it, each zone's overtemperature is
judged against its new limit, a zone that enters trouble is forced off, and OVERTEMP follows (R10, R59, R74, R75, R80,
R81, R82, R99). That the tube leaves UNCONFIGURED before the other changes of the request is the model's reading
(notes/assumptions/19.md). -/
def Obligations.ConfigureZones : Prop :=
  (∀ (b : Bank) (t : Tube),
    let third : Prop := (b.run t).state = .unconfigured ∧ (b.tube t).marks = (true, true, true)
    (¬ third → b.completeConfiguration publish t = b)
    ∧ ∀ c : ZonesConfig, third → (b.tube t).zonesConfig = some c →
      let left : Bank :=
        if (b.hold t).level = 7 then
          ((((b.modRun t fun x => { x with state := .safe }).report (some t) .safeEntered
            ((b.hold t).stack.head?.map fun f => (f.source.code : Int)) (some 0) none).modGate t fun g =>
              { g with target := none, purgeDone := false }).startRamp t ⟨.safe, c.safeTemp, c.safeRate, #v[0, 0, 0], 0, 0⟩)
        else (b.modRun t fun x => { x with state := .idle }).idlePurge publish t
      ((∀ z, (b.control t z).bad ≠ 4) → b.completeConfiguration publish t = left)
      ∧ ((∃ z, (b.control t z).bad = 4) → b.completeConfiguration publish t =
        ({ left with scanner := { left.scanner with tc := left.scanner.tc.set t true } } : Bank).raise publish t .tc 5))
  ∧ ∀ (s : State) (tag : Byte) (p : List Byte) (t : Tube), s.takesTube p 50 t →
    let record (i : Nat) : ZoneConfig := ⟨s24 p i, u16 p (i + 3), u16 p (i + 5), u16 p (i + 7), u16 p (i + 9), s24 p (i + 11)⟩
    let c : ZonesConfig := ⟨u16 p 1, s24 p 3, u16 p 6, #v[record 8, record 22, record 36]⟩
    let good : Prop := (c.period = 256 ∨ c.period = 512 ∨ c.period = 1024 ∨ c.period = 2048)
      ∧ 0 ≤ c.safeTemp ∧ c.safeTemp ≤ 140000 ∧ c.safeRate ≤ 3000
      ∧ ∀ z : Zone, 0 ≤ c.zones[z].maxSetpoint ∧ c.zones[z].maxSetpoint ≤ 140000 ∧ c.zones[z].rating ≤ 6553
        ∧ 1000 ≤ c.zones[z].overtempLimit ∧ c.zones[z].overtempLimit ≤ 150000
        ∧ c.zones[z].maxSetpoint < c.zones[z].overtempLimit
    ((s.bank.run t).state = .running →
      exec (.configureZones tag p) s = .next (s.decided .configureZones tag s.bank.hunting [0x14]))
    ∧ ((s.bank.run t).state ≠ .running → ¬ good →
      exec (.configureZones tag p) s = .next (s.decided .configureZones tag s.bank.hunting [0x12]))
    ∧ ((s.bank.run t).state ≠ .running → good →
      let b : Bank := (s.bank.hunting.modTube t fun x => { x with zonesConfig := some c }).completeConfiguration publish t
      let trouble (l : ZoneLoop) : Prop := l.overtemp = true ∨ l.failed = true
      let lowered (z : Zone) : ZoneLoop :=
        let l := (b.loops t)[z]
        if c.zones[z].maxOutput < l.output then
          { l with output := c.zones[z].maxOutput, delivered := min l.delivered c.zones[z].maxOutput }
        else l
      let judged (z : Zone) : ZoneLoop :=
        let l := lowered z
        let limit : Int := c.zones[z].overtempLimit
        let r := b.overtemp t z
        if r.status = .good then
          { l with
            overtemp := if limit < r.value then true else if r.value ≤ limit - 1000 then false else l.overtemp
            failed := false }
        else { l with failed := l.failed || decide (r.bad = 4) }
      let zone (z : Zone) : ZoneLoop :=
        if trouble (judged z) ∧ ¬ trouble (b.loops t)[z] then
          { judged z with forcedOff := true, output := 0, integral := 0, delivered := 0 }
        else judged z
      let applied : Bank := b.modLoops t fun _ => Vector.ofFn zone
      let was : Prop := ∃ z : Zone, trouble (b.loops t)[z]
      let now : Prop := ∃ z : Zone, trouble (judged z)
      ((was ↔ now) → exec (.configureZones tag p) s = .next (s.decided .configureZones tag applied [0x00]))
      ∧ (now → ¬ was → exec (.configureZones tag p) s =
        .next (s.decided .configureZones tag (applied.raise publish t .overtemp 7) [0x00]))
      ∧ (¬ now → was → exec (.configureZones tag p) s =
        .next (s.decided .configureZones tag (applied.clear t .overtemp) [0x00])))

/-- A control-period expiry at the three Zone Loops of a tube and its loop completion: each zone computes, stands frozen
or is forced off; demand, grant and delivered outputs follow; a change of the limited state is reported (R77, R79, R80,
R83, R84, R85, R87). The heater drive output of a zone is its delivered output in proportion to full conduction, 65535
(R77, R85). That an expiry on a tube without CONFIGURE ZONES changes nothing (notes/assumptions/5.md) and that the drive
is a function of the state (notes/assumptions/36.md) are the model's readings of R76 and R85. -/
def Obligations.ZoneLoopExpiry : Prop :=
  (∀ (s : State) (t : Tube),
    ((s.bank.tube t).zonesConfig = none → exec (.zoneLoopExpiry t) s = .next (s.after s.bank))
    ∧ ∀ c : ZonesConfig, (s.bank.tube t).zonesConfig = some c →
      let clamped (x lo hi : Int) : Int := if x < lo then lo else if hi < x then hi else x
      let zone (z : Zone) : ZoneLoop :=
        let l := (s.bank.loops t)[z]
        let k := c.zones[z]
        let e := clamped (((s.bank.ramp t).zones[z].accumulator + 32768) / 65536 - (s.bank.control t z).value) (-32768) 32767
        let pterm : Int := k.kp * e / 256
        let Q' : Int := l.integral + k.ki * e
        let raw : Int := pterm + Q' / 65536
        let Q : Nat := if (65535 < raw ∧ 0 < e) ∨ (raw < 0 ∧ e < 0) then l.integral else (clamped Q' 0 (65535 * 65536)).toNat
        if l.forcedOff = true then { l with output := 0, integral := 0 }
        else if (s.bank.control t z).status = .good then
          { l with integral := Q, output := (clamped (pterm + (Q : Int) / 65536) 0 k.maxOutput).toNat, frozen := false }
        else { l with frozen := true }
      let d (z : Zone) : Nat := (zone z).output * c.zones[z].rating / 65535
      let D : Nat := d 0 + d 1 + d 2
      let O : Nat := sumTubes fun u => if u = t then 0 else (s.bank.share u).demand
      let G : Nat := sumTubes fun u => if u = t then 0 else (s.bank.share u).grant
      let B : Nat := s.bank.powerLimit
      let fair : Nat := if D + O ≤ B then D else D * B / (D + O)
      let g : Nat := min D (min fair (B - G))
      let b : Bank := s.bank.modTube t fun x => { x with
        loops := Vector.ofFn fun z => { zone z with delivered := if D = 0 then 0 else (zone z).output * g / D }
        share := ⟨D, g, decide (g < D)⟩ }
      exec (.zoneLoopExpiry t) s = .next (s.after
        (if (s.bank.share t).limited = decide (g < D) then b
         else b.report (some t) .powerLimited (some D) (some g) (some (if g < D then 1 else 0)))))
  ∧ ∀ (b : Bank) (t : Tube) (z : Zone), b.heaterOutput t z * 65535 = ((b.loops t)[z].delivered : Rat)

/-- SET POWER LIMIT: the limit is replaced, and where it lies below the sum of the grants, every grant and every
delivered output is cut in its proportion to that sum, and the changes of the limited states are reported in tube order
(R86, R87). -/
def Obligations.SetPowerLimit : Prop :=
  ∀ (s : State) (tag : Byte) (p : List Byte), s.hasRoom → p.length = 2 →
    let total : Nat := sumTubes fun u => (s.bank.share u).grant
    let B : Nat := u16 p 0
    (total ≤ B →
      exec (.setPowerLimit tag p) s = .next (s.decided .setPowerLimit tag { s.bank.hunting with powerLimit := B } [0x00]))
    ∧ (B < total →
      let grant (t : Tube) : Nat := (s.bank.share t).grant * B / total
      let limited (t : Tube) : Bool := decide (grant t < (s.bank.share t).demand)
      exec (.setPowerLimit tag p) s = .next (s.decided .setPowerLimit tag
        { s.bank.hunting with
          powerLimit := B
          tubes := Vector.ofFn fun t => { s.bank.tube t with
            share := ⟨(s.bank.share t).demand, grant t, limited t⟩
            loops := (s.bank.loops t).map fun l => { l with delivered := l.delivered * B / total } }
          outbox := s.bank.outbox ++ (allTubes.filter fun t => (s.bank.share t).limited ≠ limited t).map fun t =>
            ⟨s.bank.clock, some t, .powerLimited, 2, some (s.bank.share t).demand, some (grant t),
              some (if limited t then 1 else 0)⟩ } [0x00]))

/-! ## Gas channels and supply lines (R104 to R126) -/

/-- CONFIGURE CHANNELS: refused in RUNNING, with BAD_FIELD outside its ranges or without exactly one purge channel on an
INERT gas with a line, and with IN_USE where the purge floor finds no room. Taken, it replaces the records, completes
the tube's configuration if it is the third CONFIGURE request, and sets the tube to its idle purge, timers at 0, calling
for a re-examination of waiters where it gave something back (R10, R107, R108, R116). That GAS_FLOW is not judged here
(notes/assumptions/44.md), that the tube leaves UNCONFIGURED before the other changes (notes/assumptions/19.md), and
that the re-examination is made at the end of the command (notes/assumptions/47.md) are the model's readings. -/
def Obligations.ConfigureChannels : Prop :=
  ∀ (s : State) (tag : Byte) (p : List Byte) (t : Tube), s.takesTube p 43 t →
    let floor : Nat := u16 p 1
    let code (c : Channel) : Nat := u8 p (7 + 6 * c.val)
    let full (c : Channel) : Nat := u16 p (8 + 6 * c.val)
    let tolerance (c : Channel) : Nat := u16 p (10 + 6 * c.val)
    let flag (c : Channel) : Nat := u8 p (12 + 6 * c.val)
    let ranges : Prop := floor ≤ 5000 ∧ u32 p 3 ≤ 2000000000
      ∧ ∀ c, code c ≤ 15 ∧ 10 ≤ full c ∧ full c ≤ 30000 ∧ 10 ≤ tolerance c ∧ tolerance c ≤ 500 ∧ flag c ≤ 1
    let purges (k : Channel) (l : Line) : Prop := flag k = 1 ∧ (∀ c, flag c = 1 → c = k) ∧ floor ≤ full k
      ∧ ∃ i : GasCode, i.val = code k ∧ s.bank.gasMap[i] = ⟨some l, .inert⟩
    let others (l : Line) : Nat := sumTubes fun u => if u = t then 0 else s.bank.supply.allocated u l
    ((s.bank.run t).state = .running →
      exec (.configureChannels tag p) s = .next (s.decided .configureChannels tag s.bank.hunting [0x14]))
    ∧ ((s.bank.run t).state ≠ .running → ¬ (ranges ∧ ∃ k l, purges k l) →
      exec (.configureChannels tag p) s = .next (s.decided .configureChannels tag s.bank.hunting [0x12]))
    ∧ ∀ k l, (s.bank.run t).state ≠ .running → ranges → purges k l →
      (s.bank.supply.limits[l] < floor + others l →
        exec (.configureChannels tag p) s = .next (s.decided .configureChannels tag s.bank.hunting [0x15]))
      ∧ (floor + others l ≤ s.bank.supply.limits[l] →
        let flow (c : Channel) : Nat := if c = k then floor else 0
        let alloc : Vector Nat 8 := Vector.ofFn fun m => if m = l then floor else 0
        let b : Bank := (s.bank.hunting.modGas t fun x => { x with config := some ⟨floor, u32 p 3, Vector.ofFn fun c =>
          ⟨Fin.ofNat 16 (code c), full c, tolerance c, decide (flag c = 1)⟩⟩ }).completeConfiguration publish t
        let gave : Bool := (allLines.any fun m => decide (alloc[m] < s.bank.supply.allocated t m))
          || (s.bank.supply.waits t && !b.supply.waits t)
        exec (.configureChannels tag p) s = .next (s.decided .configureChannels tag
          { (b.modGas t fun x => { x with
              channels := Vector.ofFn fun c => { x.channels[c] with
                requested := flow c, uncovered := false, effective := flow c, settle := 0, deviation := 0 } }) with
            supply := { b.supply with alloc := b.supply.alloc.set t alloc, due := b.supply.due || gave } } [0x00]))

/-- SET GAS MAP writes its entries one after another from the starting code upward and stops at the first that fails a
check or would change a gas in use: those before it stay written, each tube follows the written entries, and the reply
counts them and gives the reason. Where no channel carries a written code, the map is all that changes. An entry is in
use for a configured tube with a channel of its code that holds an allocation on the line it had, that waits in a queue,
or whose purge channel it feeds where it would no longer be an INERT gas with a line. A tube with a channel of a written
code marks each channel uncovered whose code went from NONE to a line while it requests a flow, forms its effective
setpoints, and makes a COVER request of its requested flows if it marked any (R104, R105, R106). That an entry that
fails its range check and would be in use too gives BAD_FIELD is the model's choice (notes/assumptions/48.md), and that
a list without an entry is refused with BAD_FIELD its reading (notes/assumptions/32.md). -/
def Obligations.SetGasMap : Prop :=
  (∀ (s : State) (tag : Byte) (p : List Byte) (good rest : List (Nat × Nat)),
    s.hasRoom → 2 ≤ p.length → p.length = 2 + 2 * u8 p 1 →
    (List.range (u8 p 1)).map (fun k => (u8 p (2 + 2 * k), u8 p (3 + 2 * k))) = good ++ rest →
    (15 < u8 p 0 ∨ good ++ rest = [] → exec (.setGasMap tag p) s = .next (s.decided .setGasMap tag s.bank.hunting [0x12]))
    ∧ (u8 p 0 ≤ 15 → good ++ rest ≠ [] → (∀ k e, good[k]? = some e → s.bank.mapStop (u8 p 0 + k) e = none) →
      ∀ reply : List Byte,
      (rest = [] ∧ reply = ([0x00] : List Byte) ++ leBytes 1 good.length ++ leBytes 1 (u8 p 0 + good.length : Nat) ++ [0x00])
        ∨ (∃ stop after reason, rest = stop :: after ∧ s.bank.mapStop (u8 p 0 + good.length) stop = some reason
          ∧ reply = ([0x01] : List Byte) ++ leBytes 1 good.length ++ leBytes 1 (u8 p 0 + good.length : Nat)
              ++ leBytes 1 reason.code) →
      let written : Bank := { s.bank.hunting with gasMap := s.bank.mapWith (u8 p 0) good }
      exec (.setGasMap tag p) s = .next (s.decided .setGasMap tag
          (written.eachTube (Bank.followMap publish (s.bank.formerEntries (u8 p 0) good.length))) reply)
        ∧ ((∀ t g, (s.bank.gas t).config = some g → ∀ c : Channel,
            g.channels[c].code.val < u8 p 0 ∨ u8 p 0 + good.length ≤ g.channels[c].code.val) →
          exec (.setGasMap tag p) s = .next (s.decided .setGasMap tag written reply))))
  ∧ (∀ (b : Bank) (code line cls : Nat),
    (16 ≤ code ∨ (7 < line ∧ line ≠ 0xFF) ∨ 3 < cls → b.mapStop code (line, cls) = some .badField)
    ∧ ∀ (c : GasCode) (k : GasClass), c.val = code → line ≤ 7 ∨ line = 0xFF →
      [GasClass.inert, .oxidant, .flammable, .reactive][cls]? = some k →
      let used : Prop := ∃ t g, (b.gas t).config = some g ∧ (∃ i : Channel, g.channels[i].code = c)
        ∧ ((∃ l : Line, b.gasMap[c].line = some l ∧ b.supply.allocated t l ≠ 0) ∨ (∃ w ∈ b.supply.waiters, w.tube = t)
          ∨ ((∃ i, g.purgeChannel = some i ∧ g.channels[i].code = c) ∧ (line = 0xFF ∨ k ≠ .inert)))
      (used → b.mapStop code (line, cls) = some .inUse) ∧ (¬ used → b.mapStop code (line, cls) = none))
  ∧ ∀ (pub : Publisher) (b : Bank) (t : Tube) (written : List (GasCode × MapEntry)),
    ((b.gas t).config = none → b.followMap pub written t = b)
    ∧ ∀ g : GasConfig, (b.gas t).config = some g →
      let uncovers (c : Channel) : Prop := (b.gasMap[g.channels[c].code]).line ≠ none ∧ 0 < (b.gas t).channels[c].requested
        ∧ ∃ w ∈ written, w.1 = g.channels[c].code ∧ w.2.line = none
      let formed : Bank := (b.modGas t fun x => { x with channels := Vector.ofFn fun c =>
        { x.channels[c] with uncovered := x.channels[c].uncovered || decide (uncovers c) } }).formEffective pub t
      ((∀ w ∈ written, ∀ c : Channel, g.channels[c].code ≠ w.1) → b.followMap pub written t = b)
      ∧ ((∃ w ∈ written, ∃ c : Channel, g.channels[c].code = w.1) →
        ((∀ c, ¬ uncovers c) → b.followMap pub written t = formed)
        ∧ ((∃ c, uncovers c) →
          b.followMap pub written t = formed.requestGas pub t .cover ((formed.gas t).channels.map (·.requested))))

/-- SET SUPPLY LIMIT: BAD_FIELD outside its ranges, IN_USE below the line's allocations; taken, the limit is replaced, and
a raised limit calls for a re-examination of the waiters, which is made at the end of the command (R116, R118;
notes/assumptions/47.md). -/
def Obligations.SetSupplyLimit : Prop :=
  ∀ (s : State) (tag : Byte) (p : List Byte), s.hasRoom → p.length = 4 →
    (7 < u8 p 0 ∨ 200000 < u24 p 1 →
      exec (.setSupplyLimit tag p) s = .next (s.decided .setSupplyLimit tag s.bank.hunting [0x12]))
    ∧ ∀ l : Line, l.val = u8 p 0 → u24 p 1 ≤ 200000 →
      let total : Nat := sumTubes fun t => s.bank.supply.allocated t l
      let limited : Supply := { s.bank.supply with limits := s.bank.supply.limits.set l (u24 p 1) }
      (u24 p 1 < total → exec (.setSupplyLimit tag p) s = .next (s.decided .setSupplyLimit tag s.bank.hunting [0x15]))
      ∧ (total ≤ u24 p 1 → u24 p 1 ≤ s.bank.supply.limits[l] → exec (.setSupplyLimit tag p) s =
        .next (s.decided .setSupplyLimit tag { s.bank.hunting with supply := limited } [0x00]))
      ∧ (total ≤ u24 p 1 → s.bank.supply.limits[l] < u24 p 1 → exec (.setSupplyLimit tag p) s =
        .next (s.decided .setSupplyLimit tag { s.bank.hunting with supply := { limited with due := true } } [0x00]))

/-- A gas request at the Supply Budget: granted where every line admits its vector, with a re-examination of waiters
called for where it gave something back, and left waiting otherwise, with the first line that did not admit it and its
shortfall reported and an ACTIVE phase back in WAIT_GAS; a tube that already waits keeps its place and joins the queues
of further lines (R110, R113, R114, R115). The re-examination is made at the end of the command (R116;
notes/assumptions/47.md). -/
def Obligations.GasRequest : Prop :=
  ∀ (b : Bank) (t : Tube) (k : RequestKind) (flows : Vector Nat 6),
    let v : Vector Nat 8 := Vector.ofFn fun l => sumChannels fun c =>
      if (b.channelEntry t c).line = some l then flows[c] else 0
    let others (l : Line) : Nat := sumTubes fun u => if u = t then 0 else b.supply.allocated u l
    let admits (l : Line) : Prop := v[l] ≤ b.supply.allocated t l
      ∨ ((b.supply.queue l = [] ∨ (b.supply.queue l).head? = some t) ∧ others l + v[l] ≤ b.supply.limits[l])
    let step : Option Int := (b.run t).step.map fun i => (i.val : Int)
    let granted : Bank := ((({ b with supply := { b.supply with
        alloc := b.supply.alloc.set t v, waiters := b.supply.waiters.filter fun w => w.tube ≠ t } }.report (some t) .gasGranted
          step (some k.code) (some 0)).modGas t fun g => { g with
        channels := Vector.ofFn fun c => { g.channels[c] with requested := flows[c], uncovered := false } }).formEffective
          publish t)
    let active : Bank := if (granted.run t).phase = .waitGas then granted.becomeActive publish t else granted
    ((∀ l, admits l) →
      ((∃ l : Line, v[l] < b.supply.allocated t l) ∨ (∃ w ∈ b.supply.waiters, w.tube = t) →
        b.requestGas publish t k flows = { active with supply := { active.supply with due := true } })
      ∧ ((∀ l : Line, b.supply.allocated t l ≤ v[l]) → (∀ w ∈ b.supply.waiters, w.tube ≠ t) →
        b.requestGas publish t k flows = active))
    ∧ ∀ l : Line, ¬ admits l → (∀ m : Line, m < l → admits m) →
      let wanted : List Line := allLines.filter fun m => b.supply.allocated t m < v[m]
      let waits (waiters : List Waiter) : Bank :=
        (({ b with supply := { b.supply with waiters := waiters } } : Bank).report (some t) .gasWait step (some l.val)
          (some (others l + v[l] - b.supply.limits[l] : Nat))).modRun t fun x =>
            { x with phase := if x.phase = .active then .waitGas else x.phase }
      ((∀ w ∈ b.supply.waiters, w.tube ≠ t) →
        b.requestGas publish t k flows = waits (b.supply.waiters ++ [⟨t, k, flows, v, wanted⟩]))
      ∧ ((∃ w ∈ b.supply.waiters, w.tube = t) →
        b.requestGas publish t k flows = waits (b.supply.waiters.map fun w =>
          if w.tube = t then ⟨t, k, flows, v, w.lines ++ wanted.filter fun m => decide (m ∉ w.lines)⟩ else w))

/-- The re-examination of the waiters, made at the end of the event that called for it and not otherwise. A pass takes
the waiting tubes oldest first: one that does not head every queue it is in, or that a line does not admit, is skipped,
and one that every line admits is granted from the queue; pass after pass, the passes end with the first that grants
nothing (R116, R114). That the event is the whole command (notes/assumptions/47.md) and that there are never more
granting passes than waiters (notes/assumptions/38.md) are the model's reading. -/
def Obligations.SupplyReexamination : Prop :=
  ∀ (pub : Publisher) (b : Bank),
    let others (b : Bank) (t : Tube) (l : Line) : Nat := sumTubes fun u => if u = t then 0 else b.supply.allocated u l
    let ready (b : Bank) (w : Waiter) : Prop :=
      (∀ l ∈ w.lines, (b.supply.queue l).head? = some w.tube)
        ∧ ∀ l : Line, w.vector[l] ≤ b.supply.allocated w.tube l
          ∨ ((b.supply.queue l = [] ∨ (b.supply.queue l).head? = some w.tube)
              ∧ others b w.tube l + w.vector[l] ≤ b.supply.limits[l])
    let granted (b : Bank) (w : Waiter) : Bank :=
      let given : Bank := { b with supply := { b.supply with
        alloc := b.supply.alloc.set w.tube w.vector, waiters := b.supply.waiters.filter fun x => x.tube ≠ w.tube } }
      let flowing : Bank := ((given.report (some w.tube) .gasGranted ((b.run w.tube).step.map fun i => (i.val : Int))
        (some w.kind.code) (some 1)).modGas w.tube fun g => { g with channels := Vector.ofFn fun c =>
          { g.channels[c] with requested := w.flows[c], uncovered := false } }).formEffective pub w.tube
      if (flowing.run w.tube).phase = .waitGas then flowing.becomeActive pub w.tube else flowing
    let waiting (b : Bank) : List Tube := b.supply.waiters.map (·.tube)
    (b.supply.due = false → b.settle pub = b)
    ∧ (b.supply.due = true → b.settle pub = (b.reexamine pub).modSupply fun x => { x with due := false })
    ∧ (∀ l : List Tube, (∀ t ∈ l, ∀ w, b.supply.waiter t = some w → ¬ ready b w) → b.waiterPass pub l = (b, false))
    ∧ (∀ (earlier later : List Tube) (t : Tube) (w : Waiter),
      (∀ u ∈ earlier, ∀ w, b.supply.waiter u = some w → ¬ ready b w) → b.supply.waiter t = some w → ready b w →
      b.waiterPass pub (earlier ++ t :: later) = (((granted b w).waiterPass pub later).1, true))
    ∧ ∀ (n : Nat) (after : Nat → Bank), n ≤ b.supply.waiters.length → after 0 = b →
      (∀ k, k < n → (after k).waiterPass pub (waiting (after k)) = (after (k + 1), true)) →
      ((after n).waiterPass pub (waiting (after n))).2 = false → b.reexamine pub = after n

/-- The effective setpoints formed again: each channel's is 0 in the first five rows of R119 and its requested flow in
the sixth, a channel whose setpoint changes has its timers set to 0, and after a change GAS_FLOW is judged: raised where
a channel is beyond its delay and the condition was cleared or asked another level, 5 with a FLAMMABLE channel among
them and 3 otherwise, and cleared where none is left. The MFC setpoint output is the effective setpoint in proportion to
the full scale (R119, R123, R124), a function of the state in the model's reading (notes/assumptions/36.md). -/
def Obligations.EffectiveSetpoints : Prop :=
  (∀ (pub : Publisher) (b : Bank) (t : Tube),
    let old (c : Channel) : GasChannel := (b.gas t).channels[c]
    let flow (c : Channel) : Nat :=
      match (b.gas t).config with
      | none => 0
      | some g =>
        let e := b.gasMap[g.channels[c].code]
        if e.line = none then 0
        else if (old c).uncovered = true then 0
        else if (e.cls = .flammable ∨ e.cls = .reactive) ∧ 3 ≤ (b.hold t).published then 0
        else if e.cls = .flammable ∧ (b.gate t).isOpen = false then 0
        else (old c).requested
    let new (c : Channel) : GasChannel :=
      if flow c = (old c).effective then old c else { old c with effective := flow c, settle := 0, deviation := 0 }
    let beyond (c : Channel) : Prop := 5120 ≤ (new c).deviation
    let level : Nat :=
      if allChannels.any fun c => decide (5120 ≤ (new c).deviation ∧ b.channelClass t c = .flammable) then 5 else 3
    let formed (present : Bool) : Bank := b.modGas t fun g => { g with
      channels := Vector.ofFn new, deviating := present, levelAsked := level }
    ((∀ c, flow c = (old c).effective) → b.formEffective pub t = b)
    ∧ ((∃ c, flow c ≠ (old c).effective) →
      ((∀ c, ¬ beyond c) → (b.gas t).deviating = false → b.formEffective pub t = formed false)
      ∧ ((∀ c, ¬ beyond c) → (b.gas t).deviating = true → b.formEffective pub t = (formed false).clear t .gasFlow)
      ∧ ((∃ c, beyond c) → (b.gas t).deviating = true → (b.gas t).levelAsked = level →
        b.formEffective pub t = formed true)
      ∧ ((∃ c, beyond c) → (b.gas t).deviating = false ∨ (b.gas t).levelAsked ≠ level →
        b.formEffective pub t = (formed true).raise pub t .gasFlow level)))
  ∧ ∀ (b : Bank) (t : Tube) (g : GasConfig) (c : Channel), (b.gas t).config = some g → 0 < g.channels[c].fullScale →
    b.mfcOutput t c * (g.channels[c].fullScale : Rat) = ((b.gas t).channels[c].effective : Rat)

/-! ## Purge credit and the flammable gate (R122 to R139) -/

/-- The gas sample of a tube. Each flow return becomes sccm in proportion to the channel's full scale, clamped, with the
settle and deviation timers after it; GAS_FLOW is judged, at 5 with a FLAMMABLE channel beyond its delay and at 3
otherwise, raised, raised again at another level, or cleared; then follow the step volume, the purge credit, PURGE_DONE,
the oxidant-established timer and the six conditions; the gate opens or closes by them, GATE raised at 6 at a gate loss;
and a present GATE condition clears when no flammable flow is requested (R122 to R125, R128, R130, R131, R133 to R135,
R138, R139). How a return that is no whole number of sccm is rounded is a free value (notes/assumptions/13.md); that the
Gas Channel Unit takes the sample before the gate (notes/assumptions/43.md) and the bound on GATE_OPEN's credit
(notes/assumptions/28.md) are the model's readings. -/
def Obligations.GasSample : Prop :=
  ∀ (s : State) (t : Tube) (returns : Vector FlowReturn 6),
    ((s.bank.gas t).config = none → exec (.gasSample t returns) s = .next (s.after s.bank))
    ∧ ∀ g : GasConfig, (s.bank.gas t).config = some g →
      let old (c : Channel) : GasChannel := (s.bank.gas t).channels[c]
      let k (c : Channel) : ChannelConfig := g.channels[c]
      let is (cls : GasClass) (c : Channel) : Prop := (s.bank.gasMap[(k c).code]).cls = cls
      let scaled (c : Channel) : Int := returns[c].part * (k c).fullScale
      let sccm (c : Channel) : Int := scaled c / returns[c].whole
        + if scaled c % returns[c].whole ≠ 0 ∧ Config.flowRoundsUp returns[c].part returns[c].whole (k c).fullScale then 1 else 0
      let m (c : Channel) : Nat := if sccm c < 0 then 0 else min (sccm c).toNat (k c).fullScale
      let settle (c : Channel) : Nat := min ((old c).settle + 256) 10240
      let band (c : Channel) : Nat := max ((old c).effective * (k c).tolerance / 1000) ((k c).fullScale / 100)
      let deviates (c : Channel) : Prop := settle c = 10240
        ∧ ((old c).effective + band c < m c ∨ m c + band c < (old c).effective)
      let deviation (c : Channel) : Nat := if deviates c then min ((old c).deviation + 256) 5120 else 0
      let beyond : Prop := ∃ c, deviation c = 5120
      let level : Nat := if ∃ c, deviation c = 5120 ∧ is .flammable c then 5 else 3
      let measured : Bank := s.bank.modGas t fun x => { x with
        channels := Vector.ofFn fun c => { old c with measured := m c, settle := settle c, deviation := deviation c }
        deviating := decide beyond, levelAsked := level }
      let b : Bank :=
        if beyond then
          if (s.bank.gas t).deviating = false ∨ (s.bank.gas t).levelAsked ≠ level then measured.raise publish t .gasFlow level
          else measured
        else if (s.bank.gas t).deviating = true then measured.clear t .gasFlow
        else measured
      let sum (cls : GasClass) (f : GasChannel → Nat) : Nat := sumChannels fun c => if is cls c then f (b.gas t).channels[c] else 0
      let inert : Nat := sum .inert (·.measured)
      let volume : Nat := if (b.run t).state = .running ∧ (b.run t).phase = .active
        then min ((b.gas t).stepVolume + inert) 281474976710655 else (b.gas t).stepVolume
      let credit : Nat := if (b.gate t).sealed = true
        then min ((b.gate t).credit + inert) 281474976710655 else (b.gate t).credit
      let setpoint : Nat := sum .oxidant (·.effective)
      let oxidant : Nat := sum .oxidant (·.measured)
      let hydrogen : Nat := sum .flammable (·.requested)
      let timer : Nat := if 0 < setpoint ∧ 9 * setpoint ≤ 10 * oxidant
        then min ((b.gate t).oxidantTimer + 256) 10240 else 0
      let conditions : Vector Bool 6 :=
        #v[(b.gate t).sealed,
           decide (∀ z, (b.control t z).status = .good ∧ b.threshold ≤ (b.control t z).value),
           decide (g.gateVolume * 240 ≤ credit), decide (timer = 10240), decide ((b.hold t).published < 3),
           decide (hydrogen * 1000 ≤ oxidant * b.ratio)]
      let sampled (isOpen : Bool) : Bank := b.modTube t fun x => { x with
        gas := { x.gas with stepVolume := volume }
        gate := { x.gate with
          credit := credit
          purgeDone := x.gate.purgeDone || x.gate.target.any fun v => decide (v * 240 ≤ volume)
          oxidantTimer := timer, oxidantSetpoint := setpoint, oxidantMeasured := oxidant
          conditions := conditions, isOpen := isOpen } }
      let cleared (x : Bank) : Bank :=
        if (x.gate t).lost = true ∧ hydrogen = 0 then (x.modGate t fun g => { g with lost := false }).clear t .gate else x
      (((b.gate t).isOpen = true ↔ ∀ i : Fin 6, conditions[i] = true) →
        exec (.gasSample t returns) s = .next (s.after (cleared (sampled (b.gate t).isOpen))))
      ∧ ((b.gate t).isOpen = false → (∀ i : Fin 6, conditions[i] = true) →
        exec (.gasSample t returns) s = .next (s.after (cleared (((sampled true).report (some t) .gateOpen
          (some (min (credit / 240) 4294967295 : Nat)) (some oxidant) (some hydrogen)).formEffective publish t))))
      ∧ ((b.gate t).isOpen = true → ∀ n : Fin 6, conditions[n] = false → (∀ i : Fin 6, i < n → conditions[i] = true) →
        let shut : Bank := (sampled false).report (some t) .gateClosed (some 0) (some (n.val + 1))
        let lost : Bank :=
          if (∃ c, is .flammable c ∧ 0 < (b.gas t).channels[c].effective) ∧ (b.gate t).lost = false then
            (shut.modGate t fun g => { g with lost := true }).raise publish t .gate 6
          else shut
        exec (.gasSample t returns) s = .next (s.after (cleared (lost.formEffective publish t))))

/-! ## Boat motion (R141 to R159) -/

/-- CONFIGURE RAIL: refused in RUNNING, with MOTION_BUSY while the paddle is in motion, and with BAD_FIELD outside its
ranges. Taken, it replaces the settings, completes the tube's configuration if it is the third CONFIGURE request,
discards any order, gives up a position above the new in-position, and judges MOTION and the seal again (R10, R141,
R142, R154). That MOTION is judged once, after the discard and the lost position (notes/assumptions/35.md), and that the
tube leaves UNCONFIGURED before both (notes/assumptions/19.md) are the model's readings. -/
def Obligations.ConfigureRail : Prop :=
  ∀ (s : State) (tag : Byte) (p : List Byte) (t : Tube), s.takesTube p 11 t →
    let r : Rail := ⟨u16 p 1, u16 p 3, u16 p 5, u16 p 7, u16 p 9⟩
    let good : Prop := 1 ≤ r.length ∧ r.length ≤ 25000 ∧ 1 ≤ r.inPos ∧ r.inPos ≤ r.length ∧ r.doorZone < r.inPos
      ∧ 1 ≤ r.doorSpeed ∧ r.doorSpeed ≤ 600 ∧ 1 ≤ r.locateSpeed ∧ r.locateSpeed ≤ 600
    let moves : Prop := (s.bank.boat t).paddle = .moving ∨ (s.bank.boat t).paddle = .stopping
    ((s.bank.run t).state = .running →
      exec (.configureRail tag p) s = .next (s.decided .configureRail tag s.bank.hunting [0x14]))
    ∧ ((s.bank.run t).state ≠ .running → moves →
      exec (.configureRail tag p) s = .next (s.decided .configureRail tag s.bank.hunting [0x19]))
    ∧ ((s.bank.run t).state ≠ .running → ¬ moves → ¬ good →
      exec (.configureRail tag p) s = .next (s.decided .configureRail tag s.bank.hunting [0x12]))
    ∧ ((s.bank.run t).state ≠ .running → ¬ moves → good →
      let outside (x : Boat) : Bool := (x.paddle = .stopped || x.paddle = .fault) && x.position.any fun p => decide (r.inPos < p)
      let b : Bank := (s.bank.hunting.modBoat t fun x => { x with rail := some r }).completeConfiguration publish t
      exec (.configureRail tag p) s = .next (s.decided .configureRail tag
        (((b.modBoat t fun x => { x with
            order := none, locate := none, unlocWaiting := false, blocked := false
            position := if outside x then none else x.position
            paddle := if outside x && x.paddle = .stopped then .unlocated else x.paddle }).judgeMotion publish t).judgeSeal
              publish t) [0x00]))

/-- LOCATE BOAT: refused on an UNCONFIGURED tube, at hold level 7 and unless the paddle is UNLOCATED. Taken, its order is
created beside an unfinished STEP order; at speed 0 it waits blocked, and otherwise the paddle sets out, the window opens
and the travel count is 0 (R146). -/
def Obligations.LocateBoat : Prop :=
  ∀ (s : State) (tag : Byte) (p : List Byte) (t : Tube), s.takesTube p 1 t →
    ((s.bank.run t).state = .unconfigured ∨ (s.bank.hold t).level = 7 ∨ (s.bank.boat t).paddle ≠ .unlocated →
      exec (.locateBoat tag p) s = .next (s.decided .locateBoat tag s.bank.hunting [0x14]))
    ∧ ∀ r : Rail, s.configured t → (s.bank.hold t).level ≠ 7 → (s.bank.boat t).paddle = .unlocated →
      (s.bank.boat t).rail = some r →
      let band := s.bank.speedBand t
      let speed : Nat := min (min r.locateSpeed (s.bank.boat t).table[band]) r.doorSpeed
      (speed = 0 →
        exec (.locateBoat tag p) s = .next (s.decided .locateBoat tag (s.bank.hunting.modBoat t fun x => { x with
          locate := some r.locateSpeed, order := x.order.filter fun o => o.kind = .step
          blocked := true, speed := 0, band := band.val }) [0x00]))
      ∧ (0 < speed → (s.bank.gate t).sealed = false →
        exec (.locateBoat tag p) s = .next (s.decided .locateBoat tag
          ((s.bank.hunting.modBoat t fun x => { x with
            locate := some r.locateSpeed, order := x.order.filter fun o => o.kind = .step
            paddle := .moving, blocked := false, speed := speed, band := band.val, locateTravel := 0 }).modHold t fun h =>
              { h with window := true }) [0x00]))

/-- MOVE BOAT: its checks in their order; taken, a HOST order to the clamped target is finished at once at its target,
waits held under a hold, waits blocked at speed 0, or sets the paddle out, and the reply carries the clamped target (R148,
R145, R150). -/
def Obligations.MoveBoat : Prop :=
  ∀ (s : State) (tag : Byte) (p : List Byte) (t : Tube), s.takesTube p 5 t →
    let T : Nat := u16 p 1
    let asked : Nat := u16 p 3
    let refused (c : List Byte) : Prop := exec (.moveBoat tag p) s = .next (s.decided .moveBoat tag s.bank.hunting c)
    ((s.bank.run t).state ≠ .idle → refused [0x14])
    ∧ ((s.bank.run t).state = .idle → 25000 < T ∨ asked < 1 ∨ 600 < asked → refused [0x12])
    ∧ ((s.bank.run t).state = .idle → T ≤ 25000 → 1 ≤ asked → asked ≤ 600 →
      ((s.bank.boat t).paddle = .unlocated ∨ (s.bank.boat t).paddle = .fault → refused [0x18])
      ∧ ((s.bank.boat t).paddle = .moving ∨ (s.bank.boat t).paddle = .stopping → refused [0x19])
      ∧ ∀ (r : Rail) (q : Nat), (s.bank.boat t).paddle = .stopped → (s.bank.boat t).rail = some r →
        (s.bank.boat t).position = some q → (s.bank.boat t).motion = false → (s.bank.boat t).locate = none →
        let target : Nat := min T r.inPos
        let done (b : Bank) : Prop := exec (.moveBoat tag p) s =
          .next (s.decided .moveBoat tag b (([0x00] : List Byte) ++ leBytes 2 target))
        let band := s.bank.speedBand t
        let free : Nat := min asked (s.bank.boat t).table[band]
        let speed : Nat := if r.doorZone ≤ q ∧ q ≤ r.inPos then min free r.doorSpeed else free
        let order (x : Boat) : Boat := { x with order := some ⟨.host, target, asked, none, false⟩, unlocWaiting := false }
        (q = target → (s.bank.hold t).published ≤ 6 →
          done ((s.bank.hunting.modBoat t fun x => { x with order := none, blocked := false, unlocWaiting := false }).report
            (some t) .motionDone (some 2) none (some q)))
        ∧ (q ≠ target ∨ (s.bank.hold t).published = 7 → 0 < (s.bank.hold t).published →
          done (s.bank.hunting.modBoat t fun x => { order x with blocked := false }))
        ∧ (q ≠ target → (s.bank.hold t).published = 0 → speed = 0 →
          done (s.bank.hunting.modBoat t fun x => { order x with blocked := true, speed := 0, band := band.val }))
        ∧ (q ≠ target → (s.bank.hold t).published = 0 → 0 < speed →
          done (((s.bank.hunting.modBoat t fun x => { order x with
            paddle := .moving, blocked := false, speed := speed, band := band.val
            travel := some ⟨decide (q < target), q, target, asked, free, []⟩ }).judgeWindow publish t).judgeSeal publish t)))

/-- Where an order starts from rest: finished at once at its target at a level of 0 to 6, held above 0,
unlocated-waiting for a STEP order whose paddle has no position, blocked at speed 0, and otherwise on its way; nothing
starts beside a locate or a paddle in motion. A step's motion part becomes a STEP order with its target clamped: it
replaces an order at rest and starts, or, with the paddle travelling, leaves the old order behind in a stopping record,
with the paddle STOPPING to the next mark ahead or to the old target when that is nearer, and waits for that rest (R145,
R149, R150). Which mark is the next ahead (notes/assumptions/22.md), and that a HOST order whose paddle has no position
waits without an effect (notes/assumptions/24.md), are the model's readings. -/
def Obligations.MotionOrders : Prop :=
  (∀ (pub : Publisher) (b : Bank) (t : Tube),
    let x := b.boat t
    (x.order = none ∨ x.locate ≠ none ∨ x.paddle = .moving ∨ x.paddle = .stopping → b.startOrder pub t = b)
    ∧ ∀ (o : MoveOrder) (r : Rail), x.order = some o → x.rail = some r → x.locate = none → x.paddle ≠ .moving →
      x.paddle ≠ .stopping →
      let there : Prop := x.paddle = .stopped ∧ x.position = some o.target
      (there → (b.hold t).published ≤ 6 →
        b.startOrder pub t = (b.modBoat t fun x => { x with
          order := none, blocked := false, unlocWaiting := false
          motionDone := x.motionDone || (o.kind = .step && o.current) }).report (some t) .motionDone (some o.kind.code)
            (o.step.map fun i => (i.val : Int)) (some (o.target : Nat)))
      ∧ (¬ there ∨ 7 ≤ (b.hold t).published → 0 < (b.hold t).published → b.startOrder pub t = b)
      ∧ (x.paddle = .unlocated ∨ x.paddle = .fault → (b.hold t).published = 0 →
        (o.kind = .step → b.startOrder pub t = (b.modBoat t fun x => { x with unlocWaiting := true }).judgeMotion pub t)
        ∧ (o.kind = .host → b.startOrder pub t = b))
      ∧ ∀ p, x.paddle = .stopped → x.position = some p → p ≠ o.target → (b.hold t).published = 0 →
        let free : Nat := min o.speed x.table[b.speedBand t]
        let speed : Nat := if r.doorZone ≤ p ∧ p ≤ r.inPos then min free r.doorSpeed else free
        (speed = 0 → b.startOrder pub t = b.modBoat t fun x => { x with
          blocked := true, speed := 0, band := (b.speedBand t).val })
        ∧ (0 < speed → b.startOrder pub t = ((b.modBoat t fun x => { x with
          paddle := .moving, blocked := false, speed := speed, band := (b.speedBand t).val
          travel := some ⟨decide (p < o.target), p, o.target, o.speed, free, []⟩ }).judgeWindow pub t).judgeSeal pub t))
  ∧ (∀ (pub : Publisher) (b : Bank) (t : Tube) (i : Slot) (q : MotionPart) (r : Rail), (b.boat t).rail = some r →
    let x := b.boat t
    let o : MoveOrder := ⟨.step, min q.target r.inPos, q.speed, some i, true⟩
    let replaced (f : Boat → Boat) : Bank := ((b.modBoat t fun x => { f x with
        order := none, unlocWaiting := false, blocked := x.blocked && x.locate.isSome }).judgeMotion pub t).modBoat t fun x =>
          { x with order := some o, motionDone := false }
    ((x.paddle ≠ .moving ∧ x.paddle ≠ .stopping) ∨ x.locate ≠ none →
      b.takeMotionPart pub t i q = (replaced fun x => x).startOrder pub t)
    ∧ (x.paddle = .moving ∨ x.paddle = .stopping → x.locate = none →
      (∀ old v p, x.stopping = none → x.order = some old → x.travel = some v → x.position = some p →
        b.takeMotionPart pub t i q = (replaced fun x => { x with
          paddle := .stopping, stopping := some ⟨v.stoppingPoint r p, old.kind, old.step, v.target⟩ }).startOrder pub t)
      ∧ (x.stopping ≠ none →
        b.takeMotionPart pub t i q = (replaced fun x => { x with paddle := .stopping }).startOrder pub t)))
  ∧ ∀ (v : Travel) (r : Rail) (p : Nat),
    let ahead (k : Nat) : Prop := k ≤ 50 ∧ k * 500 ≤ r.length ∧ min v.start v.target ≤ k * 500
      ∧ k * 500 ≤ max v.start v.target ∧ k ∉ v.marksRead
      ∧ if v.inward then v.start < k * 500 ∧ p ≤ k * 500 + 20 else k * 500 < v.start ∧ k * 500 ≤ p + 20
    ((∀ k, ¬ ahead k) → v.nextMark r p = none ∧ v.stoppingPoint r p = v.target)
    ∧ ∀ k, ahead k → (∀ j, ahead j → if v.inward then k ≤ j else j ≤ k) →
      v.nextMark r p = some k ∧ v.stoppingPoint r p = k * 500

/-- CLEAR MOTION FAULT: refused unless the paddle is in FAULT; taken, the paddle is UNLOCATED without a position, and the
MOTION condition clears unless a STEP order is unlocated-waiting (R155). -/
def Obligations.ClearMotionFault : Prop :=
  ∀ (s : State) (tag : Byte) (p : List Byte) (t : Tube), s.takesTube p 1 t →
    ((s.bank.run t).state = .unconfigured ∨ (s.bank.boat t).paddle ≠ .fault →
      exec (.clearMotionFault tag p) s = .next (s.decided .clearMotionFault tag s.bank.hunting [0x14]))
    ∧ (s.configured t → (s.bank.boat t).paddle = .fault → (s.bank.boat t).motion = true →
      ((s.bank.boat t).unlocWaiting = true →
        exec (.clearMotionFault tag p) s = .next (s.decided .clearMotionFault tag
          (s.bank.hunting.modBoat t fun x => { x with paddle := .unlocated, position := none }) [0x00]))
      ∧ ((s.bank.boat t).unlocWaiting = false →
        exec (.clearMotionFault tag p) s = .next (s.decided .clearMotionFault tag
          (s.bank.hunting.modTube t fun x => { x with
            boat := { x.boat with paddle := .unlocated, position := none, motion := false }
            hold := { x.hold with
              records := x.hold.records.set (6 : Fin 12) ⟨false, (x.hold.records[(6 : Fin 12)]).level⟩
              stack := x.hold.stack.map fun f => if f.source = .motion then { f with present := false } else f
              pending := x.hold.pending.map fun e => if e.source = .motion then { e with present := false } else e } })
          [0x00])))

/-- SET SPEED TABLE: an entry above 600 refuses the whole request, and otherwise every entry is replaced. The entry of the
band of the highest GOOD control reading, 15 where none is GOOD, bounds the speed asked (R152, R150). -/
def Obligations.SpeedTable : Prop :=
  (∀ (s : State) (tag : Byte) (p : List Byte) (t : Tube), s.takesTube p 33 t →
    ((s.bank.run t).state = .unconfigured →
      exec (.setSpeedTable tag p) s = .next (s.decided .setSpeedTable tag s.bank.hunting [0x14]))
    ∧ (s.configured t → (∃ i : Fin 16, 600 < u16 p (1 + 2 * i.val)) →
      exec (.setSpeedTable tag p) s = .next (s.decided .setSpeedTable tag s.bank.hunting [0x12]))
    ∧ (s.configured t → (∀ i : Fin 16, u16 p (1 + 2 * i.val) ≤ 600) →
      exec (.setSpeedTable tag p) s = .next (s.decided .setSpeedTable tag
        (s.bank.hunting.modBoat t fun x => { x with table := Vector.ofFn fun i => u16 p (1 + 2 * i.val) }) [0x00])))
  ∧ ∀ (b : Bank) (t : Tube) (asked : Nat),
    ((∀ z, (b.control t z).status ≠ .good) → b.freeSpeed t asked = min asked (b.boat t).table[(15 : Fin 16)])
    ∧ ∀ (z : Zone) (i : Fin 16), (b.control t z).status = .good →
      (∀ y, (b.control t y).status = .good → (b.control t y).value ≤ (b.control t z).value) →
      (i.val : Int) = (if (b.control t z).value < 0 then 0 else min ((b.control t z).value / 10000) 15) →
      b.freeSpeed t asked = min asked (b.boat t).table[i]

/-- Coming to rest: the paddle is STOPPED, window, MOTION_DONE and seal follow in this order, an order or a stopping
record whose target the rest stands at is finished, and an order that waited behind a stopping record starts; and a step
of the drive: a locate counts it and fails at 540; a move's position goes one unit on, a stopping record's point with
it, the door-zone speed follows the crossing and the window the position, a mark left unread is a miss, and the target
is a rest (R143, R147, R149, R151, R153, R154, R156, R158). A step at rest that changes nothing
(notes/assumptions/9.md), a speed of 0 at rest and the free speed kept through the door zone (notes/assumptions/23.md),
a step that never passes the target (notes/assumptions/34.md), the next mark ahead that a stopping record's point
follows (notes/assumptions/22.md), and the window's closing before MOTION_DONE (notes/assumptions/26.md) are the model's
choices and readings. -/
def Obligations.PaddleStep : Prop :=
  (∀ (pub : Publisher) (b : Bank) (t : Tube) (blocked : Bool) (p : Nat), (b.boat t).position = some p →
    let x := b.boat t
    let rest (order : Option MoveOrder) (blocked done : Bool) : Bank := (b.modBoat t fun x => { x with
      paddle := .stopped, travel := none, stopping := none, speed := 0
      order := order, blocked := blocked, motionDone := done }).judgeWindow pub t
    let done (c : Bank) (kind : MoveKind) (step : Option Slot) : Bank := (c.report (some t) .motionDone (some kind.code)
      (step.map fun i => (i.val : Int)) ((c.boat t).position.map fun p : Nat => (p : Int))).judgeSeal pub t
    (x.stopping = none →
      (∀ o, x.order = some o → o.target = p → b.comeToRest pub t blocked =
        done (rest none false (x.motionDone || (o.kind = .step && o.current))) o.kind o.step)
      ∧ ((∀ o, x.order = some o → o.target ≠ p) → b.comeToRest pub t blocked =
        (rest x.order blocked x.motionDone).judgeSeal pub t))
    ∧ ∀ q, x.stopping = some q →
      (q.target = p → b.comeToRest pub t blocked =
        (done (rest x.order false x.motionDone) q.kind q.step).startOrder pub t)
      ∧ (q.target ≠ p → b.comeToRest pub t blocked =
        ((rest x.order false x.motionDone).judgeSeal pub t).startOrder pub t))
  ∧ ∀ (s : State) (t : Tube),
    let x := s.bank.boat t
    let faulted (b : Bank) (cause expected : Int) : Bank :=
      let stood : Bank := ((b.modBoat t fun x => { x with
        paddle := .fault, travel := none, stopping := none, locate := none, speed := 0, blocked := false }).judgeWindow
          publish t).judgeSeal publish t
      (stood.report (some t) .motionFault (some cause) ((stood.boat t).position.map fun p : Nat => (p : Int))
        (some (expected + 256 * 255))).judgeMotion publish t
    (x.paddle ≠ .moving → x.paddle ≠ .stopping → exec (.paddleStep t) s = .next (s.after s.bank))
    ∧ (x.paddle = .moving → x.locate.isSome →
      let counted : Bank := s.bank.modBoat t fun x => { x with locateTravel := x.locateTravel + 1 }
      (x.locateTravel + 1 < 540 → exec (.paddleStep t) s = .next (s.after counted))
      ∧ (540 ≤ x.locateTravel + 1 → exec (.paddleStep t) s = .next (s.after (faulted counted 2 255))))
    ∧ ∀ (r : Rail) (v : Travel) (p : Nat), x.paddle = .moving ∨ x.paddle = .stopping → x.locate = none →
      x.rail = some r → x.travel = some v → x.position = some p →
      let q : Nat := if v.inward then min (p + 1) v.target else max (p - 1) v.target
      let inside (p : Nat) : Prop := r.doorZone ≤ p ∧ p ≤ r.inPos
      let stepped : Bank := (s.bank.modBoat t fun x => { x with
        position := some q
        stopping := x.stopping.map fun y => { y with point := v.stoppingPoint r q }
        speed := if inside p ↔ inside q then x.speed else if inside q then min v.freeSpeed r.doorSpeed
          else v.freeSpeed }).judgeWindow publish t
      let misses (k : Nat) : Prop := k * 500 ≤ r.length ∧ min v.start v.target ≤ k * 500 ∧ k * 500 ≤ max v.start v.target
        ∧ k ∉ v.marksRead ∧ ¬ (k * 500 ≤ v.start + 20 ∧ v.start ≤ k * 500 + 20)
        ∧ if v.inward then q = k * 500 + 21 else q + 21 = k * 500
      ((∀ k, k ≤ 50 → ¬ misses k) → q ≠ v.target → exec (.paddleStep t) s = .next (s.after stepped))
      ∧ ((∀ k, k ≤ 50 → ¬ misses k) → q = v.target →
        exec (.paddleStep t) s = .next (s.after (stepped.comeToRest publish t false)))
      ∧ ∀ k, k ≤ 50 → misses k → exec (.paddleStep t) s = .next (s.after (faulted stepped 1 k))

/-- A mark read: ignored at rest; a locate has its speed evaluated, ends at a mark at or below the in-position, gives up
an unlocated-waiting mark and starts the order beside it, and goes on at a mark above, or waits blocked there; during a
move a verified read resyncs the position and evaluates the speed, and is a rest at the stopping point, at the target
and at speed 0, and any other read is a mismatch (R145, R147, R151, R153, R154, R156). The resync bounded by the
in-position, the next mark as stopping point and as expected mark (notes/assumptions/22.md, notes/assumptions/50.md),
the speed of 0 at rest (notes/assumptions/23.md), the locate that waits blocked (notes/assumptions/27.md), the travel
count that the end of a locate leaves (notes/assumptions/58.md) and the place of MOTION_DONE and of BOAT_LOCATED between
the window's closing and the seal (notes/assumptions/26.md) are the model's reading. -/
def Obligations.MarkRead : Prop :=
  ∀ (s : State) (t : Tube) (k : Nat) (r : Rail), (s.bank.boat t).rail = some r →
    let x := s.bank.boat t
    let band := s.bank.speedBand t
    (x.paddle ≠ .moving → x.paddle ≠ .stopping → exec (.markRead t k) s = .next (s.after s.bank))
    ∧ (∀ asked, x.paddle = .moving → x.locate = some asked →
      (k * 500 ≤ r.inPos →
        let ended : Bank := (((s.bank.modBoat t fun x => { x with
            paddle := .stopped, position := some (k * 500), locate := none, speed := 0, band := band.val
            blocked := false }).judgeWindow publish t).report (some t) .boatLocated (some k) (some (k * 500 : Nat))).judgeSeal publish t
        exec (.markRead t k) s = .next (s.after
          (((ended.modBoat t fun x => { x with unlocWaiting := false }).judgeMotion publish t).startOrder publish t)))
      ∧ (r.inPos < k * 500 →
        let speed : Nat := min (min asked x.table[band]) r.doorSpeed
        (0 < speed → exec (.markRead t k) s = .next (s.after ((s.bank.modBoat t fun x => { x with
          locateTravel := 0, speed := speed, band := band.val, paddle := .moving, blocked := false }).judgeWindow publish t)))
        ∧ (speed = 0 → exec (.markRead t k) s = .next (s.after ((s.bank.modBoat t fun x => { x with
          locateTravel := 0, speed := 0, band := band.val, paddle := .unlocated, blocked := true }).judgeWindow publish t)))))
    ∧ ∀ (v : Travel) (p : Nat), x.paddle = .moving ∨ x.paddle = .stopping → x.locate = none →
      x.travel = some v → x.position = some p →
      let near (p : Nat) : Prop := k * 500 ≤ p + 20 ∧ p ≤ k * 500 + 20
      let verified : Prop := k * 500 ≤ r.length ∧ near p
        ∧ ((min v.start v.target ≤ k * 500 ∧ k * 500 ≤ max v.start v.target ∧ k ∉ v.marksRead) ∨ near v.start)
      let c : Nat := min (k * 500) r.inPos
      let q : Nat := if v.inward then (if v.target ≤ c then v.target else c) else (if c ≤ v.target then v.target else c)
      let free : Nat := min v.asked x.table[band]
      let speed : Nat := if r.doorZone ≤ q ∧ q ≤ r.inPos then min free r.doorSpeed else free
      let evaluated : Bank := s.bank.modBoat t fun x => { x with
        position := some q, speed := speed, band := band.val
        travel := some { v with marksRead := k :: v.marksRead, freeSpeed := free } }
      let rests : Prop := (x.paddle = .stopping ∧ v.nextMark r p = some k) ∨ q = v.target ∨ speed = 0
      (verified → ¬ rests → exec (.markRead t k) s = .next (s.after (evaluated.judgeWindow publish t)))
      ∧ (verified → rests →
        exec (.markRead t k) s = .next (s.after (evaluated.comeToRest publish t (decide (speed = 0)))))
      ∧ (¬ verified →
        let stood : Bank := ((s.bank.modBoat t fun x => { x with
          paddle := .fault, travel := none, stopping := none, locate := none, speed := 0, blocked := false }).judgeWindow
            publish t).judgeSeal publish t
        exec (.markRead t k) s = .next (s.after ((stood.report (some t) .motionFault (some 0)
          ((stood.boat t).position.map fun p : Nat => (p : Int))
          (some (((v.nextMark r p).getD 255 : Nat) + 256 * k))).judgeMotion publish t)))

/-- A change of an end-cap sensor's pin is kept as such; taken, it makes or opens the seal, which is reported and handed
to the Purge and Gate Unit; where the gate is open it closes with cause SEAL, GATE raised at 6 if hydrogen was flowing
(R129, R136, R138, R159). That the pin is taken whatever time it has stood, that nothing happens where pin and state
agree (notes/assumptions/7.md), the unit its times are kept in (notes/assumptions/6.md), and the sensor reported as 1
for closed (notes/assumptions/55.md) are the model's choices. -/
def Obligations.SealSensor : Prop :=
  ∀ (s : State) (t : Tube) (closed : Bool),
    let x := s.bank.boat t
    ((x.sensorRaw = closed → exec (.sealSensorChange t closed) s = .next s)
      ∧ (x.sensorRaw ≠ closed → exec (.sealSensorChange t closed) s =
        .next { s with bank := s.bank.modBoat t fun x => { x with sensorRaw := closed, sensorTime := 0 } }))
    ∧ (x.sensorRaw = x.sensor → exec (.sealSensorTaken t) s = .next (s.after s.bank))
    ∧ (x.sensorRaw ≠ x.sensor →
      let taken : Bank := s.bank.modBoat t fun x => { x with sensor := x.sensorRaw, sensorTime := 256 }
      let position : Option Int := x.position.map fun p : Nat => (p : Int)
      let made : Prop := x.paddle = .stopped ∧ x.sensorRaw = true ∧ ∃ r, x.rail = some r ∧ x.position = some r.inPos
      ((made ↔ (s.bank.gate t).sealed = true) → exec (.sealSensorTaken t) s = .next (s.after taken))
      ∧ (made → (s.bank.gate t).sealed = false →
        exec (.sealSensorTaken t) s = .next (s.after
          ((taken.report (some t) .sealMade position (some 1)).modGate t fun g => { g with sealed := true })))
      ∧ (¬ made → (s.bank.gate t).sealed = true →
        let opened : Bank := (taken.report (some t) .sealOpened position (some (if x.sensorRaw then 1 else 0))).modGate t
          fun g => { g with sealed := false, credit := 0 }
        let shut : Bank := (opened.modGate t fun g => { g with isOpen := false }).report (some t) .gateClosed (some 1)
        let flows : Prop := ∃ c : Channel, s.bank.channelClass t c = .flammable ∧ 0 < (s.bank.gas t).channels[c].effective
        ((s.bank.gate t).isOpen = false → exec (.sealSensorTaken t) s = .next (s.after opened))
        ∧ ((s.bank.gate t).isOpen = true → ¬ flows ∨ (s.bank.gate t).lost = true →
          exec (.sealSensorTaken t) s = .next (s.after (shut.formEffective publish t)))
        ∧ ((s.bank.gate t).isOpen = true → flows → (s.bank.gate t).lost = false →
          exec (.sealSensorTaken t) s = .next (s.after
            (((shut.modGate t fun g => { g with lost := true }).raise publish t .gate 6).formEffective publish t)))))

/-! ## Interlock groups (R161 to R170) -/

/-- A change of an input's pin is kept as such. Taken, it sets the group byte, forms the level from the group's table,
reports INTERLOCK_CHANGE for each tube that sees the group, and tells each of their Hold Units a level that has changed:
a raise at 1 to 7, a clear at 0 (R162, R164, R166). That the input is taken whatever time it has stood, that nothing
happens where pin and state agree (notes/assumptions/7.md), the unit of the debounce times (notes/assumptions/6.md), and
the order in which a bank group's four Hold Units are told (notes/assumptions/49.md) are the model's choices. -/
def Obligations.InterlockInputs : Prop :=
  ∀ (s : State) (g : Group) (i : Input) (closed : Bool),
    let x := s.bank.group g
    let bit : BitVec 8 := BitVec.ofNat 8 (2 ^ i.val)
    let put (v : BitVec 8) (on : Bool) : BitVec 8 := if on then v ||| bit else v &&& ~~~bit
    (x.raw.getLsbD i = closed → exec (.interlockInputChange g i closed) s = .next s)
    ∧ (x.raw.getLsbD i ≠ closed → exec (.interlockInputChange g i closed) s =
      .next { s with bank := s.bank.modGroup g fun x => { x with raw := put x.raw closed, debounce := x.debounce.set i 0 } })
    ∧ (x.raw.getLsbD i = x.byte.getLsbD i → exec (.interlockInputTaken g i) s = .next (s.after s.bank))
    ∧ (x.raw.getLsbD i ≠ x.byte.getLsbD i →
      let byte : BitVec 8 := put x.byte (x.raw.getLsbD i)
      let level : Nat := (s.bank.interlock.tables[g])[byte.toNat]
      let tubes : List Tube := if g.val < 2 then [0, 1, 2, 3] else [⟨(g.val - 2) / 2, by omega⟩]
      let source : Source := if g.val = 0 then .ilk0 else if g.val = 1 then .ilk1 else if g.val % 2 = 0 then .ilk2 else .ilk3
      let reported : Bank := tubes.foldl (fun b t =>
          b.report (some t) .interlockChange ((b.summary t).map fun y => (y.number : Int))
            ((b.summary t).map fun y => (y.byte.toNat : Int)) ((b.summary t).map fun y => (y.level : Int)))
        (s.bank.modGroup g fun x => { x with byte := byte, level := level, debounce := x.debounce.set i 256 })
      (level = x.level → exec (.interlockInputTaken g i) s = .next (s.after reported))
      ∧ (level ≠ x.level → 0 < level → exec (.interlockInputTaken g i) s =
        .next (s.after (tubes.foldl (fun b t => b.raise publish t source level) reported)))
      ∧ (level ≠ x.level → level = 0 → exec (.interlockInputTaken g i) s =
        .next (s.after (tubes.foldl (fun b t => b.clear t source) reported))))

/-- SET ACTION TABLE: BAD_FIELD outside its ranges, with nothing written; taken, every level is written to its entry,
and a level of the group that the written run changes is formed again (R165, R166), and nothing follows where the
group's byte lies outside the run or its entry is the level it had, in the model's reading (notes/assumptions/33.md). A
bank group's Hold Units are told in the order of their tubes, which is the model's choice (notes/assumptions/49.md). -/
def Obligations.SetActionTable : Prop :=
  ∀ (s : State) (tag : Byte) (p : List Byte), s.hasRoom → 3 ≤ p.length → p.length = 3 + u8 p 2 →
    let first : Nat := u8 p 1
    let levels : List Byte := p.drop 3
    (10 ≤ u8 p 0 ∨ 256 < first + levels.length ∨ (∃ x ∈ levels, 7 < x.toNat) →
      exec (.setActionTable tag p) s = .next (s.decided .setActionTable tag s.bank.hunting [0x12]))
    ∧ ∀ g : Group, g.val = u8 p 0 → first + levels.length ≤ 256 → (∀ x ∈ levels, x.toNat ≤ 7) →
      let table : Vector Nat 256 := Vector.ofFn fun i =>
        if first ≤ i.val ∧ i.val < first + levels.length then (levels.getD (i.val - first) 0).toNat
        else (s.bank.interlock.tables[g])[i]
      let written : Bank := { s.bank.hunting with
        interlock := { s.bank.interlock with tables := s.bank.interlock.tables.set g table } }
      let byte : Nat := (s.bank.group g).byte.toNat
      let covered : Prop := first ≤ byte ∧ byte < first + levels.length
      (¬ covered ∨ table[(s.bank.group g).byte.toNat] = (s.bank.group g).level →
        exec (.setActionTable tag p) s = .next (s.decided .setActionTable tag written [0x00]))
      ∧ (covered → table[(s.bank.group g).byte.toNat] ≠ (s.bank.group g).level →
        exec (.setActionTable tag p) s = .next (s.decided .setActionTable tag (written.formLevel publish g) [0x00]))

/-! ## Thermocouple scanning (R91 to R100) -/

/-- A completed conversion: its class and last result, from the temperature that the junction voltage and the value of
channel 0 form, the channel's record, the next channel, TC_BAD or TC_RECOVERED; then a control channel's TC condition
and the Boat Drive, which evaluates a blocked order or locate again, or an overtemperature channel's zone: its flags
judged with their band of 1000 cdeg, the zone forced off as it enters trouble, OVERTEMP raised with the tube's first
zone in trouble and cleared with its last (R81, R82, R94 to R100, R145, R146, R151). The voltage is given as a
temperature against a reference at 0, the model's choice, and what it compensates to at another reference is a free
value (notes/assumptions/14.md). -/
def Obligations.TcConversion : Prop :=
  (∀ (s : State) (input : Option Int) (c : TcChannel), s.bank.scanner.position = c →
    let old : ChannelRecord := s.bank.scanner.records[c]
    let inRange (x : Int) : Prop := if c = 0 then -2000 ≤ x ∧ x ≤ 8000 else -5000 ≤ x ∧ x ≤ 150000
    let reference : ChannelRecord := s.bank.scanner.records[(0 : TcChannel)]
    let temperature (x : Int) : Int :=
      if c = 0 ∨ reference.value = 0 then x else ((Config.compensation c x reference.value).val : Int) - 8388607
    let found : ChannelStatus × Option Int :=
      if c ≠ 0 ∧ reference.status ≠ .good then (.refFault, none)
      else match input with
        | none => (.opened, none)
        | some x => if inRange (temperature x) then (.good, some (temperature x)) else (.range, some (temperature x))
    let new : ChannelRecord :=
      if found.1 = .good then ⟨found.2.getD old.value, .good, 0, found.2⟩
      else ⟨old.value, found.1, min (old.bad + 1) 4, found.2⟩
    let tube : Option Tube := if h : c.val = 0 then none else some ⟨(c.val - 1) / 6, by omega⟩
    let b : Bank := { s.bank with scanner :=
      { s.bank.scanner with records := s.bank.scanner.records.set c new, position := c + 1 } }
    let converted : Bank :=
      if found.1 = .good ∧ 0 < old.bad then b.report tube .tcRecovered (some c.val) (some new.value) (some old.bad)
      else if found.1 ≠ .good ∧ old.bad = 0 then b.report tube .tcBad (some c.val) (some found.1.code) (some old.value)
      else b
    (c = 0 → exec (.tcConversion input) s = .next (s.after converted))
    ∧ (∀ (t : Tube) (z : Zone), c.val = 1 + 6 * t.val + 2 * z.val →
      let reaches : Prop := found.1 ≠ .good ∧ old.bad = 3 ∧ s.configured t ∧ s.bank.tcPresent t = false
      let recovers : Prop := found.1 = .good ∧ s.configured t ∧ s.bank.tcPresent t = true
        ∧ ∀ y : Zone, (converted.control t y).status = .good
      (¬ reaches → ¬ recovers →
        exec (.tcConversion input) s = .next (s.after (converted.newControlReading publish t))
        ∧ ((s.bank.boat t).blocked = false → exec (.tcConversion input) s = .next (s.after converted)))
      ∧ (reaches → exec (.tcConversion input) s = .next (s.after
        ((({ converted with scanner := { converted.scanner with tc := converted.scanner.tc.set t true } } : Bank).raise
          publish t .tc 5).newControlReading publish t)))
      ∧ (recovers → exec (.tcConversion input) s = .next (s.after
        ((({ converted with scanner := { converted.scanner with tc := converted.scanner.tc.set t false } } : Bank).clear t
          .tc).newControlReading publish t))))
    ∧ ∀ (t : Tube) (z : Zone), c.val = 2 + 6 * t.val + 2 * z.val →
      ((s.bank.tube t).zonesConfig = none → exec (.tcConversion input) s = .next (s.after converted))
      ∧ ∀ k : ZonesConfig, (s.bank.tube t).zonesConfig = some k →
        let limit : Int := k.zones[z].overtempLimit
        let l : ZoneLoop := (s.bank.loops t)[z]
        let trouble (l : ZoneLoop) : Prop := l.overtemp = true ∨ l.failed = true
        let flagged : ZoneLoop :=
          if found.1 = .good then { l with
            overtemp := if limit < new.value then true else if new.value ≤ limit - 1000 then false else l.overtemp
            failed := false }
          else { l with failed := l.failed || decide (old.bad = 3) }
        let judged : ZoneLoop :=
          if trouble flagged ∧ ¬ trouble l then { flagged with forcedOff := true, output := 0, integral := 0, delivered := 0 }
          else flagged
        let b : Bank := converted.modLoops t fun v => v.set z judged
        let others : Prop := ∃ y : Zone, y ≠ z ∧ trouble (s.bank.loops t)[y]
        ((trouble l ↔ trouble flagged) ∨ others → exec (.tcConversion input) s = .next (s.after b))
        ∧ (¬ others → trouble flagged → ¬ trouble l →
          exec (.tcConversion input) s = .next (s.after (b.raise publish t .overtemp 7)))
        ∧ (¬ others → ¬ trouble flagged → trouble l →
          exec (.tcConversion input) s = .next (s.after (b.clear t .overtemp))))
  ∧ ∀ (pub : Publisher) (b : Bank) (t : Tube),
    let x := b.boat t
    (x.blocked = false ∨ x.paddle = .moving ∨ x.paddle = .stopping → b.newControlReading pub t = b)
    ∧ (x.blocked = true → x.paddle ≠ .moving → x.paddle ≠ .stopping →
      (x.locate = none → b.newControlReading pub t = b.startOrder pub t)
      ∧ ∀ asked r, x.locate = some asked → x.rail = some r →
        let band := b.speedBand t
        let speed : Nat := min (min asked x.table[band]) r.doorSpeed
        (speed = 0 → b.newControlReading pub t = b.modBoat t fun x => { x with
          blocked := true, speed := 0, band := band.val })
        ∧ (0 < speed → b.newControlReading pub t = ((b.modBoat t fun x => { x with
          paddle := .moving, blocked := false, speed := speed, band := band.val, locateTravel := 0 }).judgeWindow
            pub t).judgeSeal pub t))

/-! ## The Run Engine at an expiry (R17 to R21) -/

/-- A control-period expiry at the Run Engine: nothing outside RUNNING or under a hold; else the clocks advance, the
step completes and is left as the table of R20 says, a present STEP_TIME cleared first and an order no longer that of
the current step, or its max-time is tested (R17, R18, R19, R20, R21, R69, R149). That an expiry on a tube without
CONFIGURE ZONES changes nothing, and the period that expires while none is in force (notes/assumptions/5.md), and the
timers and GAS_FLOW at a run end's idle purge (notes/assumptions/56.md), are the model's reading. -/
def Obligations.RunEngineExpiry : Prop :=
  ∀ (s : State) (t : Tube),
    ((s.bank.tube t).zonesConfig = none ∨ (s.bank.run t).state ≠ .running ∨ (s.bank.hold t).stack ≠ [] →
      exec (.runEngineExpiry t) s = .next (s.after s.bank))
    ∧ ∀ (P : Nat) (i : Slot) (c : SlotContent), s.bank.expiringPeriod t = some P → (s.bank.run t).state = .running →
      (s.bank.hold t).stack = [] → (s.bank.run t).step = some i → (s.bank.run t).slots[i] = some c →
      let x := s.bank.run t
      let r := c.record
      let stepClock : Nat := if x.phase = .active then min (x.stepClock + P) 4294967295 else x.stepClock
      let maxClock : Nat := min (x.maxClock + P) 4294967295
      let clocked (x : RunEngine) : RunEngine := { x with stepClock := stepClock, maxClock := maxClock }
      let complete : Prop := x.phase = .active ∧ r.duration * 1024 ≤ stepClock
        ∧ (∀ q, r.stability = some q → q.time * 1024 ≤ (s.bank.ramp t).stabTimer)
        ∧ (r.motion ≠ none → (s.bank.boat t).motionDone = true) ∧ (r.purge ≠ none → (s.bank.gate t).purgeDone = true)
        ∧ ∀ k : Channel, (s.bank.gas t).channels[k].effective = (s.bank.gas t).channels[k].requested
      (¬ complete → r.maxTime = 0 ∨ maxClock < r.maxTime * 1024 ∨ x.stepTime = true →
        exec (.runEngineExpiry t) s = .next (s.after (s.bank.modRun t clocked)))
      ∧ (¬ complete → r.maxTime ≠ 0 → r.maxTime * 1024 ≤ maxClock → x.stepTime = false →
        exec (.runEngineExpiry t) s = .next (s.after ((s.bank.modRun t fun x => { clocked x with stepTime := true }).raise
          publish t .stepTime 4)))
      ∧ (complete →
        let timed : Bank :=
          if x.stepTime = true then (s.bank.modRun t fun x => { clocked x with stepTime := false }).clear t .stepTime
          else s.bank.modRun t clocked
        let left (slots : Vector (Option SlotContent) 64) : Bank :=
          ((timed.report (some t) .stepDone (some i.val) (some stepClock)).modBoat t fun y =>
            { y with order := y.order.map fun o => { o with current := false }, motionDone := false }).modRun t fun x =>
              { x with slots := slots }
        let goes (slots : Vector (Option SlotContent) 64) : Prop :=
          (∀ j : Slot, j.val = i.val + 1 → r.final = false → x.slots[j] ≠ none →
            exec (.runEngineExpiry t) s = .next (s.after ((left slots).enterStep publish t j)))
          ∧ (r.final = true ∨ i.val = 63 ∨ (∃ j : Slot, j.val = i.val + 1 ∧ x.slots[j] = none) →
            exec (.runEngineExpiry t) s = .next (s.after ((left slots).endRun publish t)))
        (r.repetition = none → goes x.slots)
        ∧ ∀ q : RepeatPart, r.repetition = some q →
          (c.counter = 0 → goes (x.slots.set i (some { c with counter := q.count })))
          ∧ (0 < c.counter →
            (∀ j : Slot, j.val = q.toIndex → x.slots[j] ≠ none →
              exec (.runEngineExpiry t) s = .next (s.after
                ((left (x.slots.set i (some { c with counter := c.counter - 1 }))).enterStep publish t j)))
            ∧ ((∃ j : Slot, j.val = q.toIndex ∧ x.slots[j] = none) →
              exec (.runEngineExpiry t) s = .next (s.after
                ((left (x.slots.set i (some { c with counter := c.counter - 1 }))).endRun publish t)))))

/-- The run end: the outcome, RUN_DONE, the tube IDLE; the ramp stopped where it stands with RAMP_LAG cleared, no purge
target, the tube at its idle purge; an unfinished order discarded, a paddle that travels under it STOPPING to its
stopping point with a record of the order left behind (R21, R63, R117, R130, R149). That the effective setpoints its
idle purge changes restart their channels' timers and have GAS_FLOW judged, beside R126's words that a run end leaves
both as they stand, is the model's reading (notes/assumptions/56.md). -/
def Obligations.RunEnd : Prop :=
  ∀ (b : Bank) (t : Tube),
    let outcome : RunOutcome := if (b.run t).abortPath = true then .aborted else .done
    let ended : Bank := ((b.modRun t fun x => { x with outcome := outcome, phase := .none, abortPath := false }).report (some t)
      .runDone (some outcome.code) ((b.run t).step.map fun i => (i.val : Int))).modTube t fun x => { x with
        run := { x.run with state := .idle }
        ramp := { x.ramp with inProgress := false, lagTimer := 0, lag := false }
        gate := { x.gate with target := none, purgeDone := false } }
    let told : Bank := if (b.ramp t).lag = true then ended.clear t .rampLag else ended
    let purged : Bank := told.idlePurge publish t
    let x := purged.boat t
    let discard (f : Boat → Boat) : Bank := (purged.modBoat t fun x => { f x with
      order := none, unlocWaiting := false, blocked := x.blocked && x.locate.isSome }).judgeMotion publish t
    (x.order = none → b.endRun publish t = purged)
    ∧ (∀ o, x.order = some o → (x.paddle ≠ .moving ∧ x.paddle ≠ .stopping) ∨ x.locate ≠ none →
      b.endRun publish t = discard fun x => x)
    ∧ ∀ (o : MoveOrder) (r : Rail) (v : Travel) (p : Nat), x.order = some o → x.paddle = .moving ∨ x.paddle = .stopping →
      x.locate = none → x.rail = some r → x.travel = some v → x.position = some p →
      (x.stopping = none → b.endRun publish t = discard fun x => { x with
        paddle := .stopping, stopping := some ⟨v.stoppingPoint r p, o.kind, o.step, v.target⟩ })
      ∧ (x.stopping ≠ none → b.endRun publish t = discard fun x => { x with paddle := .stopping })

/-! ## What every command leaves and keeps -/

/-- The frame of every command: a setting of the bank that the command may not write stands as it stood. -/
def Obligations.SettingsStand : Prop :=
  ∀ (c : Instr) (k : Setting) (s s' : State), c.mayWrite k = false → exec c s = .next s' → k.same s.bank s'.bank

/-- The six invariants hold right after reset. -/
def Obligations.InvariantsAtReset : Prop :=
  State.reset.bank.configSafe ∧ State.reset.bank.powerSafe ∧ State.reset.bank.linkSafe ∧ State.reset.bank.holdSafe
    ∧ State.reset.bank.gateSafe ∧ State.reset.bank.PaddleSafe

/-- Every step keeps the paddle on its rail, with its position within 0 and the in-position, and no tube whose three
CONFIGURE requests have been accepted UNCONFIGURED (R10, R143). -/
def Obligations.PaddleKept : Prop :=
  ∀ s s' : State, s.bank.PaddleSafe → s.bank.configSafe → step s = .next s' → s'.bank.PaddleSafe ∧ s'.bank.configSafe

/-- Every step keeps the sum of the power grants within the bank power limit, each grant within its demand and each
delivered output within its output (R84). -/
def Obligations.PowerKept : Prop := ∀ s s' : State, s.bank.powerSafe → step s = .next s' → s'.bank.powerSafe

/-- Every step keeps the reply and report queues within their places, and an idle transmitter beside empty queues (R175,
R177, R180). -/
def Obligations.LinkKept : Prop := ∀ s s' : State, s.bank.linkSafe → step s = .next s' → s'.bank.linkSafe

/-- Every step keeps every hold stack in order of level, its pending set one entry to a source, its level-7 condition
set each source once, and its level published (R31, R33, R46, R48); the order of that set is the model's choice
(notes/assumptions/57.md). -/
def Obligations.HoldKept : Prop := ∀ s s' : State, s.bank.holdSafe → step s = .next s' → s'.bank.holdSafe

/-- Every step keeps every FLAMMABLE channel at an effective setpoint of 0 while its tube's gate is closed (R119). -/
def Obligations.GateKept : Prop := ∀ s s' : State, s.bank.gateSafe → step s = .next s' → s'.bank.gateSafe
end

