-- ==== Sys2Proof/Laws/Codec.lean ====
section
/-! SUPPORT. Reading back what a payload's fields were written as (R187, R190), and what fits a reply. -/

namespace Sys2Proof.Machine

/-! ## Integers -/

@[simp] theorem leBytes_length (n : Nat) (x : Int) : (leBytes n x).length = n := by
  induction n generalizing x with
  | zero => rfl
  | succ n ih => simp [leBytes, ih]

/-- The number of a character made of an integer is the integer modulo 256. -/
theorem toNat_ofInt_byte (x : Int) : ((BitVec.ofInt 8 x).toNat : Int) = x % 256 := by
  simp [BitVec.toNat_ofInt]; omega

theorem leBytes_one (x : Int) : leBytes 1 x = [BitVec.ofInt 8 x] := rfl
theorem leBytes_two (x : Int) : leBytes 2 x = [BitVec.ofInt 8 x, BitVec.ofInt 8 (x / 256)] := rfl
theorem leBytes_three (x : Int) :
    leBytes 3 x = [BitVec.ofInt 8 x, BitVec.ofInt 8 (x / 256), BitVec.ofInt 8 (x / 256 / 256)] := rfl
theorem leBytes_four (x : Int) :
    leBytes 4 x = [BitVec.ofInt 8 x, BitVec.ofInt 8 (x / 256), BitVec.ofInt 8 (x / 256 / 256),
      BitVec.ofInt 8 (x / 256 / 256 / 256)] := rfl

/-- A field at an offset is the field at the front of what follows. -/
theorem u8_drop (p : List Byte) (i : Nat) : u8 p i = u8 (p.drop i) 0 := by
  simp [u8, List.getD_eq_getElem?_getD]
theorem u16_drop (p : List Byte) (i : Nat) : u16 p i = u16 (p.drop i) 0 := by
  simp [u16, u8, List.getD_eq_getElem?_getD]
theorem u24_drop (p : List Byte) (i : Nat) : u24 p i = u24 (p.drop i) 0 := by
  simp [u24, u16, u8, List.getD_eq_getElem?_getD]
theorem s24_drop (p : List Byte) (i : Nat) : s24 p i = s24 (p.drop i) 0 := by
  unfold s24
  rw [u24_drop]

/-- A number that fits its characters is read back. -/
theorem u8_leBytes (x : Nat) (h : x < 256) (l : List Byte) : u8 (leBytes 1 x ++ l) 0 = x := by
  have := toNat_ofInt_byte x
  simp [leBytes_one, u8]
  omega
theorem u16_leBytes (x : Nat) (h : x < 65536) (l : List Byte) : u16 (leBytes 2 x ++ l) 0 = x := by
  have := toNat_ofInt_byte x
  have := toNat_ofInt_byte ((x : Int) / 256)
  simp only [leBytes_two, u16, u8, List.cons_append, List.getD_cons_zero, List.getD_cons_succ]
  omega
theorem u24_leBytes_mod (x : Int) (l : List Byte) : (u24 (leBytes 3 x ++ l) 0 : Int) = x % 16777216 := by
  have := toNat_ofInt_byte x
  have := toNat_ofInt_byte (x / 256)
  have := toNat_ofInt_byte (x / 256 / 256)
  simp only [leBytes_three, u24, u16, u8, List.cons_append, List.getD_cons_zero, List.getD_cons_succ]
  omega
theorem u24_leBytes (x : Nat) (h : x < 16777216) (l : List Byte) : u24 (leBytes 3 x ++ l) 0 = x := by
  have := u24_leBytes_mod x l
  omega
theorem s24_leBytes (x : Int) (h : -8388608 ≤ x) (h' : x < 8388608) (l : List Byte) :
    s24 (leBytes 3 x ++ l) 0 = x := by
  have := u24_leBytes_mod x l
  unfold s24
  split <;> omega
theorem u32_leBytes (x : Nat) (h : x < 4294967296) (l : List Byte) : u32 (leBytes 4 x ++ l) 0 = x := by
  have := toNat_ofInt_byte x
  have := toNat_ofInt_byte ((x : Int) / 256)
  have := toNat_ofInt_byte ((x : Int) / 256 / 256)
  have := toNat_ofInt_byte ((x : Int) / 256 / 256 / 256)
  simp only [leBytes_four, u32, u16, u8, List.cons_append, List.getD_cons_zero, List.getD_cons_succ]
  omega

/-- A number in range, and one out of it. -/
theorem asFin_val {n : Nat} (l : Fin n) {x : Nat} (h : l.val = x) : asFin n x = some l := by
  subst h
  exact dif_pos l.2
theorem asFin_none {n x : Nat} (h : n ≤ x) : asFin n x = none := dif_neg (by omega)

/-! ## The parts of a record -/

/-- The part taken off the front of a record is the part that was written. -/
theorem takePart_partBytes {α : Type} (x : Option α) (f : α → List Byte) (n : Nat)
    (h : ∀ a, x = some a → (f a).length = n) (rest : List Byte) :
    takePart x.isSome n (partBytes x f ++ rest) = some (x.map f, rest) := by
  cases x with
  | none => rfl
  | some a =>
    have := h a rfl
    simp [takePart, partBytes, ← this]

/-- The characters of the entries of a gas part. -/
def entryBytes (l : List GasEntry) : List Byte := l.flatMap fun e => leBytes 1 e.channel ++ leBytes 2 e.flow

theorem entryBytes_length (l : List GasEntry) : (entryBytes l).length = 3 * l.length := by
  induction l with
  | nil => rfl
  | cons x l ih =>
    simp only [entryBytes] at ih
    simp only [entryBytes, List.flatMap_cons, List.length_append, ih, leBytes_length, List.length_cons]
    omega

/-- The entries of a gas part are read back. -/
theorem readGasEntries_entryBytes (l : List GasEntry) (h : ∀ e ∈ l, e.channel < 256 ∧ e.flow < 65536) :
    readGasEntries l.length (entryBytes l) = l := by
  induction l with
  | nil => rfl
  | cons x l ih =>
    have hx := h x (by simp)
    have e : entryBytes (x :: l) = leBytes 1 x.channel ++ (leBytes 2 x.flow ++ entryBytes l) := by
      simp only [entryBytes, List.flatMap_cons, List.append_assoc]
    rw [e, List.length_cons, readGasEntries, u8_leBytes _ hx.1, u16_drop]
    rw [show List.drop 1 (leBytes 1 (x.channel : Int) ++ (leBytes 2 (x.flow : Int) ++ entryBytes l))
      = leBytes 2 (x.flow : Int) ++ entryBytes l from rfl, u16_leBytes _ hx.2]
    rw [show List.drop 3 (leBytes 1 (x.channel : Int) ++ (leBytes 2 (x.flow : Int) ++ entryBytes l)) = entryBytes l from rfl,
      ih fun e he => h e (by simp [he])]

/-! ## What fits a reply -/

/-- The members that fit a room are the first ones, as many as fit it. -/
theorem fitting_take (room : Nat) (l : List (List Byte)) :
    ∃ n, n ≤ l.length ∧ fitting room l = l.take n ∧ (l.take n).flatten.length ≤ room
      ∧ ∀ x, l[n]? = some x → room < (l.take n).flatten.length + x.length := by
  induction l generalizing room with
  | nil => exact ⟨0, by simp [fitting]⟩
  | cons s l ih =>
    unfold fitting
    split
    · obtain ⟨n, h1, h2, h3, h4⟩ := ih (room - s.length)
      refine ⟨n + 1, by simp; omega, by simp [h2], by simp at h3 ⊢; omega, fun x hx => ?_⟩
      have := h4 x (by simpa using hx)
      simp at this ⊢
      omega
    · refine ⟨0, by simp, by simp, by simp, fun x hx => ?_⟩
      simp at hx
      subst hx
      simp
      omega

end Sys2Proof.Machine
end

