-- ==== Sys2Proof/Laws/State.lean ====
section
/-! SUPPORT. The lemmas of the state's updates: what each update leaves, and what it writes, one lemma per field. -/

namespace Sys2Proof.Machine

variable (b : Bank) (t u : Tube)

/-! ## One tube -/

theorem Bank.tube_modTube (f : TubeState → TubeState) :
    (b.modTube t f).tube u = if u = t then f (b.tube t) else b.tube u := by
  unfold Bank.modTube Bank.tube
  by_cases h : u = t
  · subst h; simp
  · have : t.val ≠ u.val := fun e => h (Fin.ext e.symm)
    simp [h, this]

@[simp] theorem Bank.tube_modTube_self (f : TubeState → TubeState) : (b.modTube t f).tube t = f (b.tube t) := by
  simp [Bank.tube_modTube]

theorem Bank.tube_modTube_ne {t u : Tube} (h : u ≠ t) (f : TubeState → TubeState) :
    (b.modTube t f).tube u = b.tube u := by
  simp [Bank.tube_modTube, h]
@[simp] theorem Bank.clock_modTube (f : TubeState → TubeState) : (b.modTube t f).clock = b.clock := rfl
@[simp] theorem Bank.powerLimit_modTube (f : TubeState → TubeState) : (b.modTube t f).powerLimit = b.powerLimit := rfl
@[simp] theorem Bank.scanner_modTube (f : TubeState → TubeState) : (b.modTube t f).scanner = b.scanner := rfl
@[simp] theorem Bank.gasMap_modTube (f : TubeState → TubeState) : (b.modTube t f).gasMap = b.gasMap := rfl
@[simp] theorem Bank.supply_modTube (f : TubeState → TubeState) : (b.modTube t f).supply = b.supply := rfl
@[simp] theorem Bank.threshold_modTube (f : TubeState → TubeState) : (b.modTube t f).threshold = b.threshold := rfl
@[simp] theorem Bank.ratio_modTube (f : TubeState → TubeState) : (b.modTube t f).ratio = b.ratio := rfl
@[simp] theorem Bank.interlock_modTube (f : TubeState → TubeState) : (b.modTube t f).interlock = b.interlock := rfl
@[simp] theorem Bank.link_modTube (f : TubeState → TubeState) : (b.modTube t f).link = b.link := rfl
@[simp] theorem Bank.outbox_modTube (f : TubeState → TubeState) : (b.modTube t f).outbox = b.outbox := rfl

/-! ## Bank.modRun -/

theorem Bank.run_modRun (f : RunEngine → RunEngine) :
    (b.modRun t f).run u = if u = t then f (b.run t) else b.run u := by
  unfold Bank.modRun Bank.run; rw [Bank.tube_modTube]; split <;> rfl
@[simp] theorem Bank.run_modRun_self (f : RunEngine → RunEngine) : (b.modRun t f).run t = f (b.run t) := by
  simp [Bank.run_modRun]
theorem Bank.run_modRun_ne {t u : Tube} (h : u ≠ t) (f : RunEngine → RunEngine) :
    (b.modRun t f).run u = b.run u := by
  simp [Bank.run_modRun, h]
@[simp] theorem Bank.hold_modRun (f : RunEngine → RunEngine) : (b.modRun t f).hold u = b.hold u := by
  unfold Bank.modRun Bank.hold; rw [Bank.tube_modTube]; split <;> simp_all
@[simp] theorem Bank.ramp_modRun (f : RunEngine → RunEngine) : (b.modRun t f).ramp u = b.ramp u := by
  unfold Bank.modRun Bank.ramp; rw [Bank.tube_modTube]; split <;> simp_all
@[simp] theorem Bank.loops_modRun (f : RunEngine → RunEngine) : (b.modRun t f).loops u = b.loops u := by
  unfold Bank.modRun Bank.loops; rw [Bank.tube_modTube]; split <;> simp_all
@[simp] theorem Bank.share_modRun (f : RunEngine → RunEngine) : (b.modRun t f).share u = b.share u := by
  unfold Bank.modRun Bank.share; rw [Bank.tube_modTube]; split <;> simp_all
@[simp] theorem Bank.gas_modRun (f : RunEngine → RunEngine) : (b.modRun t f).gas u = b.gas u := by
  unfold Bank.modRun Bank.gas; rw [Bank.tube_modTube]; split <;> simp_all
@[simp] theorem Bank.gate_modRun (f : RunEngine → RunEngine) : (b.modRun t f).gate u = b.gate u := by
  unfold Bank.modRun Bank.gate; rw [Bank.tube_modTube]; split <;> simp_all
@[simp] theorem Bank.boat_modRun (f : RunEngine → RunEngine) : (b.modRun t f).boat u = b.boat u := by
  unfold Bank.modRun Bank.boat; rw [Bank.tube_modTube]; split <;> simp_all
@[simp] theorem Bank.zonesConfig_modRun (f : RunEngine → RunEngine) :
    ((b.modRun t f).tube u).zonesConfig = (b.tube u).zonesConfig := by
  unfold Bank.modRun; rw [Bank.tube_modTube]; split <;> simp_all
@[simp] theorem Bank.period_modRun (f : RunEngine → RunEngine) :
    ((b.modRun t f).tube u).period = (b.tube u).period := by
  unfold Bank.modRun; rw [Bank.tube_modTube]; split <;> simp_all
@[simp] theorem Bank.clock_modRun (f : RunEngine → RunEngine) : (b.modRun t f).clock = b.clock := rfl
@[simp] theorem Bank.powerLimit_modRun (f : RunEngine → RunEngine) : (b.modRun t f).powerLimit = b.powerLimit := rfl
@[simp] theorem Bank.scanner_modRun (f : RunEngine → RunEngine) : (b.modRun t f).scanner = b.scanner := rfl
@[simp] theorem Bank.gasMap_modRun (f : RunEngine → RunEngine) : (b.modRun t f).gasMap = b.gasMap := rfl
@[simp] theorem Bank.supply_modRun (f : RunEngine → RunEngine) : (b.modRun t f).supply = b.supply := rfl
@[simp] theorem Bank.threshold_modRun (f : RunEngine → RunEngine) : (b.modRun t f).threshold = b.threshold := rfl
@[simp] theorem Bank.ratio_modRun (f : RunEngine → RunEngine) : (b.modRun t f).ratio = b.ratio := rfl
@[simp] theorem Bank.interlock_modRun (f : RunEngine → RunEngine) : (b.modRun t f).interlock = b.interlock := rfl
@[simp] theorem Bank.link_modRun (f : RunEngine → RunEngine) : (b.modRun t f).link = b.link := rfl
@[simp] theorem Bank.outbox_modRun (f : RunEngine → RunEngine) : (b.modRun t f).outbox = b.outbox := rfl

/-! ## Bank.modHold -/

theorem Bank.hold_modHold (f : HoldUnit → HoldUnit) :
    (b.modHold t f).hold u = if u = t then f (b.hold t) else b.hold u := by
  unfold Bank.modHold Bank.hold; rw [Bank.tube_modTube]; split <;> rfl
@[simp] theorem Bank.hold_modHold_self (f : HoldUnit → HoldUnit) : (b.modHold t f).hold t = f (b.hold t) := by
  simp [Bank.hold_modHold]
theorem Bank.hold_modHold_ne {t u : Tube} (h : u ≠ t) (f : HoldUnit → HoldUnit) :
    (b.modHold t f).hold u = b.hold u := by
  simp [Bank.hold_modHold, h]
@[simp] theorem Bank.run_modHold (f : HoldUnit → HoldUnit) : (b.modHold t f).run u = b.run u := by
  unfold Bank.modHold Bank.run; rw [Bank.tube_modTube]; split <;> simp_all
@[simp] theorem Bank.ramp_modHold (f : HoldUnit → HoldUnit) : (b.modHold t f).ramp u = b.ramp u := by
  unfold Bank.modHold Bank.ramp; rw [Bank.tube_modTube]; split <;> simp_all
@[simp] theorem Bank.loops_modHold (f : HoldUnit → HoldUnit) : (b.modHold t f).loops u = b.loops u := by
  unfold Bank.modHold Bank.loops; rw [Bank.tube_modTube]; split <;> simp_all
@[simp] theorem Bank.share_modHold (f : HoldUnit → HoldUnit) : (b.modHold t f).share u = b.share u := by
  unfold Bank.modHold Bank.share; rw [Bank.tube_modTube]; split <;> simp_all
@[simp] theorem Bank.gas_modHold (f : HoldUnit → HoldUnit) : (b.modHold t f).gas u = b.gas u := by
  unfold Bank.modHold Bank.gas; rw [Bank.tube_modTube]; split <;> simp_all
@[simp] theorem Bank.gate_modHold (f : HoldUnit → HoldUnit) : (b.modHold t f).gate u = b.gate u := by
  unfold Bank.modHold Bank.gate; rw [Bank.tube_modTube]; split <;> simp_all
@[simp] theorem Bank.boat_modHold (f : HoldUnit → HoldUnit) : (b.modHold t f).boat u = b.boat u := by
  unfold Bank.modHold Bank.boat; rw [Bank.tube_modTube]; split <;> simp_all
@[simp] theorem Bank.zonesConfig_modHold (f : HoldUnit → HoldUnit) :
    ((b.modHold t f).tube u).zonesConfig = (b.tube u).zonesConfig := by
  unfold Bank.modHold; rw [Bank.tube_modTube]; split <;> simp_all
@[simp] theorem Bank.period_modHold (f : HoldUnit → HoldUnit) :
    ((b.modHold t f).tube u).period = (b.tube u).period := by
  unfold Bank.modHold; rw [Bank.tube_modTube]; split <;> simp_all
@[simp] theorem Bank.clock_modHold (f : HoldUnit → HoldUnit) : (b.modHold t f).clock = b.clock := rfl
@[simp] theorem Bank.powerLimit_modHold (f : HoldUnit → HoldUnit) : (b.modHold t f).powerLimit = b.powerLimit := rfl
@[simp] theorem Bank.scanner_modHold (f : HoldUnit → HoldUnit) : (b.modHold t f).scanner = b.scanner := rfl
@[simp] theorem Bank.gasMap_modHold (f : HoldUnit → HoldUnit) : (b.modHold t f).gasMap = b.gasMap := rfl
@[simp] theorem Bank.supply_modHold (f : HoldUnit → HoldUnit) : (b.modHold t f).supply = b.supply := rfl
@[simp] theorem Bank.threshold_modHold (f : HoldUnit → HoldUnit) : (b.modHold t f).threshold = b.threshold := rfl
@[simp] theorem Bank.ratio_modHold (f : HoldUnit → HoldUnit) : (b.modHold t f).ratio = b.ratio := rfl
@[simp] theorem Bank.interlock_modHold (f : HoldUnit → HoldUnit) : (b.modHold t f).interlock = b.interlock := rfl
@[simp] theorem Bank.link_modHold (f : HoldUnit → HoldUnit) : (b.modHold t f).link = b.link := rfl
@[simp] theorem Bank.outbox_modHold (f : HoldUnit → HoldUnit) : (b.modHold t f).outbox = b.outbox := rfl

/-! ## Bank.modRamp -/

theorem Bank.ramp_modRamp (f : Ramp → Ramp) :
    (b.modRamp t f).ramp u = if u = t then f (b.ramp t) else b.ramp u := by
  unfold Bank.modRamp Bank.ramp; rw [Bank.tube_modTube]; split <;> rfl
@[simp] theorem Bank.ramp_modRamp_self (f : Ramp → Ramp) : (b.modRamp t f).ramp t = f (b.ramp t) := by
  simp [Bank.ramp_modRamp]
theorem Bank.ramp_modRamp_ne {t u : Tube} (h : u ≠ t) (f : Ramp → Ramp) :
    (b.modRamp t f).ramp u = b.ramp u := by
  simp [Bank.ramp_modRamp, h]
@[simp] theorem Bank.run_modRamp (f : Ramp → Ramp) : (b.modRamp t f).run u = b.run u := by
  unfold Bank.modRamp Bank.run; rw [Bank.tube_modTube]; split <;> simp_all
@[simp] theorem Bank.hold_modRamp (f : Ramp → Ramp) : (b.modRamp t f).hold u = b.hold u := by
  unfold Bank.modRamp Bank.hold; rw [Bank.tube_modTube]; split <;> simp_all
@[simp] theorem Bank.loops_modRamp (f : Ramp → Ramp) : (b.modRamp t f).loops u = b.loops u := by
  unfold Bank.modRamp Bank.loops; rw [Bank.tube_modTube]; split <;> simp_all
@[simp] theorem Bank.share_modRamp (f : Ramp → Ramp) : (b.modRamp t f).share u = b.share u := by
  unfold Bank.modRamp Bank.share; rw [Bank.tube_modTube]; split <;> simp_all
@[simp] theorem Bank.gas_modRamp (f : Ramp → Ramp) : (b.modRamp t f).gas u = b.gas u := by
  unfold Bank.modRamp Bank.gas; rw [Bank.tube_modTube]; split <;> simp_all
@[simp] theorem Bank.gate_modRamp (f : Ramp → Ramp) : (b.modRamp t f).gate u = b.gate u := by
  unfold Bank.modRamp Bank.gate; rw [Bank.tube_modTube]; split <;> simp_all
@[simp] theorem Bank.boat_modRamp (f : Ramp → Ramp) : (b.modRamp t f).boat u = b.boat u := by
  unfold Bank.modRamp Bank.boat; rw [Bank.tube_modTube]; split <;> simp_all
@[simp] theorem Bank.zonesConfig_modRamp (f : Ramp → Ramp) :
    ((b.modRamp t f).tube u).zonesConfig = (b.tube u).zonesConfig := by
  unfold Bank.modRamp; rw [Bank.tube_modTube]; split <;> simp_all
@[simp] theorem Bank.period_modRamp (f : Ramp → Ramp) :
    ((b.modRamp t f).tube u).period = (b.tube u).period := by
  unfold Bank.modRamp; rw [Bank.tube_modTube]; split <;> simp_all
@[simp] theorem Bank.clock_modRamp (f : Ramp → Ramp) : (b.modRamp t f).clock = b.clock := rfl
@[simp] theorem Bank.powerLimit_modRamp (f : Ramp → Ramp) : (b.modRamp t f).powerLimit = b.powerLimit := rfl
@[simp] theorem Bank.scanner_modRamp (f : Ramp → Ramp) : (b.modRamp t f).scanner = b.scanner := rfl
@[simp] theorem Bank.gasMap_modRamp (f : Ramp → Ramp) : (b.modRamp t f).gasMap = b.gasMap := rfl
@[simp] theorem Bank.supply_modRamp (f : Ramp → Ramp) : (b.modRamp t f).supply = b.supply := rfl
@[simp] theorem Bank.threshold_modRamp (f : Ramp → Ramp) : (b.modRamp t f).threshold = b.threshold := rfl
@[simp] theorem Bank.ratio_modRamp (f : Ramp → Ramp) : (b.modRamp t f).ratio = b.ratio := rfl
@[simp] theorem Bank.interlock_modRamp (f : Ramp → Ramp) : (b.modRamp t f).interlock = b.interlock := rfl
@[simp] theorem Bank.link_modRamp (f : Ramp → Ramp) : (b.modRamp t f).link = b.link := rfl
@[simp] theorem Bank.outbox_modRamp (f : Ramp → Ramp) : (b.modRamp t f).outbox = b.outbox := rfl

/-! ## Bank.modLoops -/

theorem Bank.loops_modLoops (f : Vector ZoneLoop 3 → Vector ZoneLoop 3) :
    (b.modLoops t f).loops u = if u = t then f (b.loops t) else b.loops u := by
  unfold Bank.modLoops Bank.loops; rw [Bank.tube_modTube]; split <;> rfl
@[simp] theorem Bank.loops_modLoops_self (f : Vector ZoneLoop 3 → Vector ZoneLoop 3) : (b.modLoops t f).loops t = f (b.loops t) := by
  simp [Bank.loops_modLoops]
theorem Bank.loops_modLoops_ne {t u : Tube} (h : u ≠ t) (f : Vector ZoneLoop 3 → Vector ZoneLoop 3) :
    (b.modLoops t f).loops u = b.loops u := by
  simp [Bank.loops_modLoops, h]
@[simp] theorem Bank.run_modLoops (f : Vector ZoneLoop 3 → Vector ZoneLoop 3) : (b.modLoops t f).run u = b.run u := by
  unfold Bank.modLoops Bank.run; rw [Bank.tube_modTube]; split <;> simp_all
@[simp] theorem Bank.hold_modLoops (f : Vector ZoneLoop 3 → Vector ZoneLoop 3) : (b.modLoops t f).hold u = b.hold u := by
  unfold Bank.modLoops Bank.hold; rw [Bank.tube_modTube]; split <;> simp_all
@[simp] theorem Bank.ramp_modLoops (f : Vector ZoneLoop 3 → Vector ZoneLoop 3) : (b.modLoops t f).ramp u = b.ramp u := by
  unfold Bank.modLoops Bank.ramp; rw [Bank.tube_modTube]; split <;> simp_all
@[simp] theorem Bank.share_modLoops (f : Vector ZoneLoop 3 → Vector ZoneLoop 3) : (b.modLoops t f).share u = b.share u := by
  unfold Bank.modLoops Bank.share; rw [Bank.tube_modTube]; split <;> simp_all
@[simp] theorem Bank.gas_modLoops (f : Vector ZoneLoop 3 → Vector ZoneLoop 3) : (b.modLoops t f).gas u = b.gas u := by
  unfold Bank.modLoops Bank.gas; rw [Bank.tube_modTube]; split <;> simp_all
@[simp] theorem Bank.gate_modLoops (f : Vector ZoneLoop 3 → Vector ZoneLoop 3) : (b.modLoops t f).gate u = b.gate u := by
  unfold Bank.modLoops Bank.gate; rw [Bank.tube_modTube]; split <;> simp_all
@[simp] theorem Bank.boat_modLoops (f : Vector ZoneLoop 3 → Vector ZoneLoop 3) : (b.modLoops t f).boat u = b.boat u := by
  unfold Bank.modLoops Bank.boat; rw [Bank.tube_modTube]; split <;> simp_all
@[simp] theorem Bank.zonesConfig_modLoops (f : Vector ZoneLoop 3 → Vector ZoneLoop 3) :
    ((b.modLoops t f).tube u).zonesConfig = (b.tube u).zonesConfig := by
  unfold Bank.modLoops; rw [Bank.tube_modTube]; split <;> simp_all
@[simp] theorem Bank.period_modLoops (f : Vector ZoneLoop 3 → Vector ZoneLoop 3) :
    ((b.modLoops t f).tube u).period = (b.tube u).period := by
  unfold Bank.modLoops; rw [Bank.tube_modTube]; split <;> simp_all
@[simp] theorem Bank.clock_modLoops (f : Vector ZoneLoop 3 → Vector ZoneLoop 3) : (b.modLoops t f).clock = b.clock := rfl
@[simp] theorem Bank.powerLimit_modLoops (f : Vector ZoneLoop 3 → Vector ZoneLoop 3) : (b.modLoops t f).powerLimit = b.powerLimit := rfl
@[simp] theorem Bank.scanner_modLoops (f : Vector ZoneLoop 3 → Vector ZoneLoop 3) : (b.modLoops t f).scanner = b.scanner := rfl
@[simp] theorem Bank.gasMap_modLoops (f : Vector ZoneLoop 3 → Vector ZoneLoop 3) : (b.modLoops t f).gasMap = b.gasMap := rfl
@[simp] theorem Bank.supply_modLoops (f : Vector ZoneLoop 3 → Vector ZoneLoop 3) : (b.modLoops t f).supply = b.supply := rfl
@[simp] theorem Bank.threshold_modLoops (f : Vector ZoneLoop 3 → Vector ZoneLoop 3) : (b.modLoops t f).threshold = b.threshold := rfl
@[simp] theorem Bank.ratio_modLoops (f : Vector ZoneLoop 3 → Vector ZoneLoop 3) : (b.modLoops t f).ratio = b.ratio := rfl
@[simp] theorem Bank.interlock_modLoops (f : Vector ZoneLoop 3 → Vector ZoneLoop 3) : (b.modLoops t f).interlock = b.interlock := rfl
@[simp] theorem Bank.link_modLoops (f : Vector ZoneLoop 3 → Vector ZoneLoop 3) : (b.modLoops t f).link = b.link := rfl
@[simp] theorem Bank.outbox_modLoops (f : Vector ZoneLoop 3 → Vector ZoneLoop 3) : (b.modLoops t f).outbox = b.outbox := rfl

/-! ## Bank.modShare -/

theorem Bank.share_modShare (f : Share → Share) :
    (b.modShare t f).share u = if u = t then f (b.share t) else b.share u := by
  unfold Bank.modShare Bank.share; rw [Bank.tube_modTube]; split <;> rfl
@[simp] theorem Bank.share_modShare_self (f : Share → Share) : (b.modShare t f).share t = f (b.share t) := by
  simp [Bank.share_modShare]
theorem Bank.share_modShare_ne {t u : Tube} (h : u ≠ t) (f : Share → Share) :
    (b.modShare t f).share u = b.share u := by
  simp [Bank.share_modShare, h]
@[simp] theorem Bank.run_modShare (f : Share → Share) : (b.modShare t f).run u = b.run u := by
  unfold Bank.modShare Bank.run; rw [Bank.tube_modTube]; split <;> simp_all
@[simp] theorem Bank.hold_modShare (f : Share → Share) : (b.modShare t f).hold u = b.hold u := by
  unfold Bank.modShare Bank.hold; rw [Bank.tube_modTube]; split <;> simp_all
@[simp] theorem Bank.ramp_modShare (f : Share → Share) : (b.modShare t f).ramp u = b.ramp u := by
  unfold Bank.modShare Bank.ramp; rw [Bank.tube_modTube]; split <;> simp_all
@[simp] theorem Bank.loops_modShare (f : Share → Share) : (b.modShare t f).loops u = b.loops u := by
  unfold Bank.modShare Bank.loops; rw [Bank.tube_modTube]; split <;> simp_all
@[simp] theorem Bank.gas_modShare (f : Share → Share) : (b.modShare t f).gas u = b.gas u := by
  unfold Bank.modShare Bank.gas; rw [Bank.tube_modTube]; split <;> simp_all
@[simp] theorem Bank.gate_modShare (f : Share → Share) : (b.modShare t f).gate u = b.gate u := by
  unfold Bank.modShare Bank.gate; rw [Bank.tube_modTube]; split <;> simp_all
@[simp] theorem Bank.boat_modShare (f : Share → Share) : (b.modShare t f).boat u = b.boat u := by
  unfold Bank.modShare Bank.boat; rw [Bank.tube_modTube]; split <;> simp_all
@[simp] theorem Bank.zonesConfig_modShare (f : Share → Share) :
    ((b.modShare t f).tube u).zonesConfig = (b.tube u).zonesConfig := by
  unfold Bank.modShare; rw [Bank.tube_modTube]; split <;> simp_all
@[simp] theorem Bank.period_modShare (f : Share → Share) :
    ((b.modShare t f).tube u).period = (b.tube u).period := by
  unfold Bank.modShare; rw [Bank.tube_modTube]; split <;> simp_all
@[simp] theorem Bank.clock_modShare (f : Share → Share) : (b.modShare t f).clock = b.clock := rfl
@[simp] theorem Bank.powerLimit_modShare (f : Share → Share) : (b.modShare t f).powerLimit = b.powerLimit := rfl
@[simp] theorem Bank.scanner_modShare (f : Share → Share) : (b.modShare t f).scanner = b.scanner := rfl
@[simp] theorem Bank.gasMap_modShare (f : Share → Share) : (b.modShare t f).gasMap = b.gasMap := rfl
@[simp] theorem Bank.supply_modShare (f : Share → Share) : (b.modShare t f).supply = b.supply := rfl
@[simp] theorem Bank.threshold_modShare (f : Share → Share) : (b.modShare t f).threshold = b.threshold := rfl
@[simp] theorem Bank.ratio_modShare (f : Share → Share) : (b.modShare t f).ratio = b.ratio := rfl
@[simp] theorem Bank.interlock_modShare (f : Share → Share) : (b.modShare t f).interlock = b.interlock := rfl
@[simp] theorem Bank.link_modShare (f : Share → Share) : (b.modShare t f).link = b.link := rfl
@[simp] theorem Bank.outbox_modShare (f : Share → Share) : (b.modShare t f).outbox = b.outbox := rfl

/-! ## Bank.modGas -/

theorem Bank.gas_modGas (f : GasUnit → GasUnit) :
    (b.modGas t f).gas u = if u = t then f (b.gas t) else b.gas u := by
  unfold Bank.modGas Bank.gas; rw [Bank.tube_modTube]; split <;> rfl
@[simp] theorem Bank.gas_modGas_self (f : GasUnit → GasUnit) : (b.modGas t f).gas t = f (b.gas t) := by
  simp [Bank.gas_modGas]
theorem Bank.gas_modGas_ne {t u : Tube} (h : u ≠ t) (f : GasUnit → GasUnit) :
    (b.modGas t f).gas u = b.gas u := by
  simp [Bank.gas_modGas, h]
@[simp] theorem Bank.run_modGas (f : GasUnit → GasUnit) : (b.modGas t f).run u = b.run u := by
  unfold Bank.modGas Bank.run; rw [Bank.tube_modTube]; split <;> simp_all
@[simp] theorem Bank.hold_modGas (f : GasUnit → GasUnit) : (b.modGas t f).hold u = b.hold u := by
  unfold Bank.modGas Bank.hold; rw [Bank.tube_modTube]; split <;> simp_all
@[simp] theorem Bank.ramp_modGas (f : GasUnit → GasUnit) : (b.modGas t f).ramp u = b.ramp u := by
  unfold Bank.modGas Bank.ramp; rw [Bank.tube_modTube]; split <;> simp_all
@[simp] theorem Bank.loops_modGas (f : GasUnit → GasUnit) : (b.modGas t f).loops u = b.loops u := by
  unfold Bank.modGas Bank.loops; rw [Bank.tube_modTube]; split <;> simp_all
@[simp] theorem Bank.share_modGas (f : GasUnit → GasUnit) : (b.modGas t f).share u = b.share u := by
  unfold Bank.modGas Bank.share; rw [Bank.tube_modTube]; split <;> simp_all
@[simp] theorem Bank.gate_modGas (f : GasUnit → GasUnit) : (b.modGas t f).gate u = b.gate u := by
  unfold Bank.modGas Bank.gate; rw [Bank.tube_modTube]; split <;> simp_all
@[simp] theorem Bank.boat_modGas (f : GasUnit → GasUnit) : (b.modGas t f).boat u = b.boat u := by
  unfold Bank.modGas Bank.boat; rw [Bank.tube_modTube]; split <;> simp_all
@[simp] theorem Bank.zonesConfig_modGas (f : GasUnit → GasUnit) :
    ((b.modGas t f).tube u).zonesConfig = (b.tube u).zonesConfig := by
  unfold Bank.modGas; rw [Bank.tube_modTube]; split <;> simp_all
@[simp] theorem Bank.period_modGas (f : GasUnit → GasUnit) :
    ((b.modGas t f).tube u).period = (b.tube u).period := by
  unfold Bank.modGas; rw [Bank.tube_modTube]; split <;> simp_all
@[simp] theorem Bank.clock_modGas (f : GasUnit → GasUnit) : (b.modGas t f).clock = b.clock := rfl
@[simp] theorem Bank.powerLimit_modGas (f : GasUnit → GasUnit) : (b.modGas t f).powerLimit = b.powerLimit := rfl
@[simp] theorem Bank.scanner_modGas (f : GasUnit → GasUnit) : (b.modGas t f).scanner = b.scanner := rfl
@[simp] theorem Bank.gasMap_modGas (f : GasUnit → GasUnit) : (b.modGas t f).gasMap = b.gasMap := rfl
@[simp] theorem Bank.supply_modGas (f : GasUnit → GasUnit) : (b.modGas t f).supply = b.supply := rfl
@[simp] theorem Bank.threshold_modGas (f : GasUnit → GasUnit) : (b.modGas t f).threshold = b.threshold := rfl
@[simp] theorem Bank.ratio_modGas (f : GasUnit → GasUnit) : (b.modGas t f).ratio = b.ratio := rfl
@[simp] theorem Bank.interlock_modGas (f : GasUnit → GasUnit) : (b.modGas t f).interlock = b.interlock := rfl
@[simp] theorem Bank.link_modGas (f : GasUnit → GasUnit) : (b.modGas t f).link = b.link := rfl
@[simp] theorem Bank.outbox_modGas (f : GasUnit → GasUnit) : (b.modGas t f).outbox = b.outbox := rfl

/-! ## Bank.modGate -/

theorem Bank.gate_modGate (f : PurgeGate → PurgeGate) :
    (b.modGate t f).gate u = if u = t then f (b.gate t) else b.gate u := by
  unfold Bank.modGate Bank.gate; rw [Bank.tube_modTube]; split <;> rfl
@[simp] theorem Bank.gate_modGate_self (f : PurgeGate → PurgeGate) : (b.modGate t f).gate t = f (b.gate t) := by
  simp [Bank.gate_modGate]
theorem Bank.gate_modGate_ne {t u : Tube} (h : u ≠ t) (f : PurgeGate → PurgeGate) :
    (b.modGate t f).gate u = b.gate u := by
  simp [Bank.gate_modGate, h]
@[simp] theorem Bank.run_modGate (f : PurgeGate → PurgeGate) : (b.modGate t f).run u = b.run u := by
  unfold Bank.modGate Bank.run; rw [Bank.tube_modTube]; split <;> simp_all
@[simp] theorem Bank.hold_modGate (f : PurgeGate → PurgeGate) : (b.modGate t f).hold u = b.hold u := by
  unfold Bank.modGate Bank.hold; rw [Bank.tube_modTube]; split <;> simp_all
@[simp] theorem Bank.ramp_modGate (f : PurgeGate → PurgeGate) : (b.modGate t f).ramp u = b.ramp u := by
  unfold Bank.modGate Bank.ramp; rw [Bank.tube_modTube]; split <;> simp_all
@[simp] theorem Bank.loops_modGate (f : PurgeGate → PurgeGate) : (b.modGate t f).loops u = b.loops u := by
  unfold Bank.modGate Bank.loops; rw [Bank.tube_modTube]; split <;> simp_all
@[simp] theorem Bank.share_modGate (f : PurgeGate → PurgeGate) : (b.modGate t f).share u = b.share u := by
  unfold Bank.modGate Bank.share; rw [Bank.tube_modTube]; split <;> simp_all
@[simp] theorem Bank.gas_modGate (f : PurgeGate → PurgeGate) : (b.modGate t f).gas u = b.gas u := by
  unfold Bank.modGate Bank.gas; rw [Bank.tube_modTube]; split <;> simp_all
@[simp] theorem Bank.boat_modGate (f : PurgeGate → PurgeGate) : (b.modGate t f).boat u = b.boat u := by
  unfold Bank.modGate Bank.boat; rw [Bank.tube_modTube]; split <;> simp_all
@[simp] theorem Bank.zonesConfig_modGate (f : PurgeGate → PurgeGate) :
    ((b.modGate t f).tube u).zonesConfig = (b.tube u).zonesConfig := by
  unfold Bank.modGate; rw [Bank.tube_modTube]; split <;> simp_all
@[simp] theorem Bank.period_modGate (f : PurgeGate → PurgeGate) :
    ((b.modGate t f).tube u).period = (b.tube u).period := by
  unfold Bank.modGate; rw [Bank.tube_modTube]; split <;> simp_all
@[simp] theorem Bank.clock_modGate (f : PurgeGate → PurgeGate) : (b.modGate t f).clock = b.clock := rfl
@[simp] theorem Bank.powerLimit_modGate (f : PurgeGate → PurgeGate) : (b.modGate t f).powerLimit = b.powerLimit := rfl
@[simp] theorem Bank.scanner_modGate (f : PurgeGate → PurgeGate) : (b.modGate t f).scanner = b.scanner := rfl
@[simp] theorem Bank.gasMap_modGate (f : PurgeGate → PurgeGate) : (b.modGate t f).gasMap = b.gasMap := rfl
@[simp] theorem Bank.supply_modGate (f : PurgeGate → PurgeGate) : (b.modGate t f).supply = b.supply := rfl
@[simp] theorem Bank.threshold_modGate (f : PurgeGate → PurgeGate) : (b.modGate t f).threshold = b.threshold := rfl
@[simp] theorem Bank.ratio_modGate (f : PurgeGate → PurgeGate) : (b.modGate t f).ratio = b.ratio := rfl
@[simp] theorem Bank.interlock_modGate (f : PurgeGate → PurgeGate) : (b.modGate t f).interlock = b.interlock := rfl
@[simp] theorem Bank.link_modGate (f : PurgeGate → PurgeGate) : (b.modGate t f).link = b.link := rfl
@[simp] theorem Bank.outbox_modGate (f : PurgeGate → PurgeGate) : (b.modGate t f).outbox = b.outbox := rfl

/-! ## Bank.modBoat -/

theorem Bank.boat_modBoat (f : Boat → Boat) :
    (b.modBoat t f).boat u = if u = t then f (b.boat t) else b.boat u := by
  unfold Bank.modBoat Bank.boat; rw [Bank.tube_modTube]; split <;> rfl
@[simp] theorem Bank.boat_modBoat_self (f : Boat → Boat) : (b.modBoat t f).boat t = f (b.boat t) := by
  simp [Bank.boat_modBoat]
theorem Bank.boat_modBoat_ne {t u : Tube} (h : u ≠ t) (f : Boat → Boat) :
    (b.modBoat t f).boat u = b.boat u := by
  simp [Bank.boat_modBoat, h]
@[simp] theorem Bank.run_modBoat (f : Boat → Boat) : (b.modBoat t f).run u = b.run u := by
  unfold Bank.modBoat Bank.run; rw [Bank.tube_modTube]; split <;> simp_all
@[simp] theorem Bank.hold_modBoat (f : Boat → Boat) : (b.modBoat t f).hold u = b.hold u := by
  unfold Bank.modBoat Bank.hold; rw [Bank.tube_modTube]; split <;> simp_all
@[simp] theorem Bank.ramp_modBoat (f : Boat → Boat) : (b.modBoat t f).ramp u = b.ramp u := by
  unfold Bank.modBoat Bank.ramp; rw [Bank.tube_modTube]; split <;> simp_all
@[simp] theorem Bank.loops_modBoat (f : Boat → Boat) : (b.modBoat t f).loops u = b.loops u := by
  unfold Bank.modBoat Bank.loops; rw [Bank.tube_modTube]; split <;> simp_all
@[simp] theorem Bank.share_modBoat (f : Boat → Boat) : (b.modBoat t f).share u = b.share u := by
  unfold Bank.modBoat Bank.share; rw [Bank.tube_modTube]; split <;> simp_all
@[simp] theorem Bank.gas_modBoat (f : Boat → Boat) : (b.modBoat t f).gas u = b.gas u := by
  unfold Bank.modBoat Bank.gas; rw [Bank.tube_modTube]; split <;> simp_all
@[simp] theorem Bank.gate_modBoat (f : Boat → Boat) : (b.modBoat t f).gate u = b.gate u := by
  unfold Bank.modBoat Bank.gate; rw [Bank.tube_modTube]; split <;> simp_all
@[simp] theorem Bank.zonesConfig_modBoat (f : Boat → Boat) :
    ((b.modBoat t f).tube u).zonesConfig = (b.tube u).zonesConfig := by
  unfold Bank.modBoat; rw [Bank.tube_modTube]; split <;> simp_all
@[simp] theorem Bank.period_modBoat (f : Boat → Boat) :
    ((b.modBoat t f).tube u).period = (b.tube u).period := by
  unfold Bank.modBoat; rw [Bank.tube_modTube]; split <;> simp_all
@[simp] theorem Bank.clock_modBoat (f : Boat → Boat) : (b.modBoat t f).clock = b.clock := rfl
@[simp] theorem Bank.powerLimit_modBoat (f : Boat → Boat) : (b.modBoat t f).powerLimit = b.powerLimit := rfl
@[simp] theorem Bank.scanner_modBoat (f : Boat → Boat) : (b.modBoat t f).scanner = b.scanner := rfl
@[simp] theorem Bank.gasMap_modBoat (f : Boat → Boat) : (b.modBoat t f).gasMap = b.gasMap := rfl
@[simp] theorem Bank.supply_modBoat (f : Boat → Boat) : (b.modBoat t f).supply = b.supply := rfl
@[simp] theorem Bank.threshold_modBoat (f : Boat → Boat) : (b.modBoat t f).threshold = b.threshold := rfl
@[simp] theorem Bank.ratio_modBoat (f : Boat → Boat) : (b.modBoat t f).ratio = b.ratio := rfl
@[simp] theorem Bank.interlock_modBoat (f : Boat → Boat) : (b.modBoat t f).interlock = b.interlock := rfl
@[simp] theorem Bank.link_modBoat (f : Boat → Boat) : (b.modBoat t f).link = b.link := rfl
@[simp] theorem Bank.outbox_modBoat (f : Boat → Boat) : (b.modBoat t f).outbox = b.outbox := rfl

/-! ## Updates of the whole bank -/

@[simp] theorem Bank.tubes_report (x : Option Tube) (k : ReportKind) (d1 d2 d3 : Option Int) (n : Nat) : (b.report x k d1 d2 d3 n).tubes = b.tubes := rfl
@[simp] theorem Bank.clock_report (x : Option Tube) (k : ReportKind) (d1 d2 d3 : Option Int) (n : Nat) : (b.report x k d1 d2 d3 n).clock = b.clock := rfl
@[simp] theorem Bank.powerLimit_report (x : Option Tube) (k : ReportKind) (d1 d2 d3 : Option Int) (n : Nat) : (b.report x k d1 d2 d3 n).powerLimit = b.powerLimit := rfl
@[simp] theorem Bank.scanner_report (x : Option Tube) (k : ReportKind) (d1 d2 d3 : Option Int) (n : Nat) : (b.report x k d1 d2 d3 n).scanner = b.scanner := rfl
@[simp] theorem Bank.gasMap_report (x : Option Tube) (k : ReportKind) (d1 d2 d3 : Option Int) (n : Nat) : (b.report x k d1 d2 d3 n).gasMap = b.gasMap := rfl
@[simp] theorem Bank.supply_report (x : Option Tube) (k : ReportKind) (d1 d2 d3 : Option Int) (n : Nat) : (b.report x k d1 d2 d3 n).supply = b.supply := rfl
@[simp] theorem Bank.threshold_report (x : Option Tube) (k : ReportKind) (d1 d2 d3 : Option Int) (n : Nat) : (b.report x k d1 d2 d3 n).threshold = b.threshold := rfl
@[simp] theorem Bank.ratio_report (x : Option Tube) (k : ReportKind) (d1 d2 d3 : Option Int) (n : Nat) : (b.report x k d1 d2 d3 n).ratio = b.ratio := rfl
@[simp] theorem Bank.interlock_report (x : Option Tube) (k : ReportKind) (d1 d2 d3 : Option Int) (n : Nat) : (b.report x k d1 d2 d3 n).interlock = b.interlock := rfl
@[simp] theorem Bank.link_report (x : Option Tube) (k : ReportKind) (d1 d2 d3 : Option Int) (n : Nat) : (b.report x k d1 d2 d3 n).link = b.link := rfl
@[simp] theorem Bank.run_report (x : Option Tube) (k : ReportKind) (d1 d2 d3 : Option Int) (n : Nat) : (b.report x k d1 d2 d3 n).run u = b.run u := rfl
@[simp] theorem Bank.hold_report (x : Option Tube) (k : ReportKind) (d1 d2 d3 : Option Int) (n : Nat) : (b.report x k d1 d2 d3 n).hold u = b.hold u := rfl
@[simp] theorem Bank.ramp_report (x : Option Tube) (k : ReportKind) (d1 d2 d3 : Option Int) (n : Nat) : (b.report x k d1 d2 d3 n).ramp u = b.ramp u := rfl
@[simp] theorem Bank.loops_report (x : Option Tube) (k : ReportKind) (d1 d2 d3 : Option Int) (n : Nat) : (b.report x k d1 d2 d3 n).loops u = b.loops u := rfl
@[simp] theorem Bank.share_report (x : Option Tube) (k : ReportKind) (d1 d2 d3 : Option Int) (n : Nat) : (b.report x k d1 d2 d3 n).share u = b.share u := rfl
@[simp] theorem Bank.gas_report (x : Option Tube) (k : ReportKind) (d1 d2 d3 : Option Int) (n : Nat) : (b.report x k d1 d2 d3 n).gas u = b.gas u := rfl
@[simp] theorem Bank.gate_report (x : Option Tube) (k : ReportKind) (d1 d2 d3 : Option Int) (n : Nat) : (b.report x k d1 d2 d3 n).gate u = b.gate u := rfl
@[simp] theorem Bank.boat_report (x : Option Tube) (k : ReportKind) (d1 d2 d3 : Option Int) (n : Nat) : (b.report x k d1 d2 d3 n).boat u = b.boat u := rfl
@[simp] theorem Bank.tube_report (x : Option Tube) (k : ReportKind) (d1 d2 d3 : Option Int) (n : Nat) : (b.report x k d1 d2 d3 n).tube u = b.tube u := rfl
@[simp] theorem Bank.tubes_modSupply (f : Supply → Supply) : (b.modSupply f).tubes = b.tubes := rfl
@[simp] theorem Bank.clock_modSupply (f : Supply → Supply) : (b.modSupply f).clock = b.clock := rfl
@[simp] theorem Bank.powerLimit_modSupply (f : Supply → Supply) : (b.modSupply f).powerLimit = b.powerLimit := rfl
@[simp] theorem Bank.scanner_modSupply (f : Supply → Supply) : (b.modSupply f).scanner = b.scanner := rfl
@[simp] theorem Bank.gasMap_modSupply (f : Supply → Supply) : (b.modSupply f).gasMap = b.gasMap := rfl
@[simp] theorem Bank.threshold_modSupply (f : Supply → Supply) : (b.modSupply f).threshold = b.threshold := rfl
@[simp] theorem Bank.ratio_modSupply (f : Supply → Supply) : (b.modSupply f).ratio = b.ratio := rfl
@[simp] theorem Bank.interlock_modSupply (f : Supply → Supply) : (b.modSupply f).interlock = b.interlock := rfl
@[simp] theorem Bank.link_modSupply (f : Supply → Supply) : (b.modSupply f).link = b.link := rfl
@[simp] theorem Bank.outbox_modSupply (f : Supply → Supply) : (b.modSupply f).outbox = b.outbox := rfl
@[simp] theorem Bank.run_modSupply (f : Supply → Supply) : (b.modSupply f).run u = b.run u := rfl
@[simp] theorem Bank.hold_modSupply (f : Supply → Supply) : (b.modSupply f).hold u = b.hold u := rfl
@[simp] theorem Bank.ramp_modSupply (f : Supply → Supply) : (b.modSupply f).ramp u = b.ramp u := rfl
@[simp] theorem Bank.loops_modSupply (f : Supply → Supply) : (b.modSupply f).loops u = b.loops u := rfl
@[simp] theorem Bank.share_modSupply (f : Supply → Supply) : (b.modSupply f).share u = b.share u := rfl
@[simp] theorem Bank.gas_modSupply (f : Supply → Supply) : (b.modSupply f).gas u = b.gas u := rfl
@[simp] theorem Bank.gate_modSupply (f : Supply → Supply) : (b.modSupply f).gate u = b.gate u := rfl
@[simp] theorem Bank.boat_modSupply (f : Supply → Supply) : (b.modSupply f).boat u = b.boat u := rfl
@[simp] theorem Bank.tube_modSupply (f : Supply → Supply) : (b.modSupply f).tube u = b.tube u := rfl
@[simp] theorem Bank.supply_modSupply (f : Supply → Supply) : (b.modSupply f).supply = f b.supply := rfl
@[simp] theorem Bank.tubes_modScanner (f : Scanner → Scanner) : (b.modScanner f).tubes = b.tubes := rfl
@[simp] theorem Bank.clock_modScanner (f : Scanner → Scanner) : (b.modScanner f).clock = b.clock := rfl
@[simp] theorem Bank.powerLimit_modScanner (f : Scanner → Scanner) : (b.modScanner f).powerLimit = b.powerLimit := rfl
@[simp] theorem Bank.gasMap_modScanner (f : Scanner → Scanner) : (b.modScanner f).gasMap = b.gasMap := rfl
@[simp] theorem Bank.supply_modScanner (f : Scanner → Scanner) : (b.modScanner f).supply = b.supply := rfl
@[simp] theorem Bank.threshold_modScanner (f : Scanner → Scanner) : (b.modScanner f).threshold = b.threshold := rfl
@[simp] theorem Bank.ratio_modScanner (f : Scanner → Scanner) : (b.modScanner f).ratio = b.ratio := rfl
@[simp] theorem Bank.interlock_modScanner (f : Scanner → Scanner) : (b.modScanner f).interlock = b.interlock := rfl
@[simp] theorem Bank.link_modScanner (f : Scanner → Scanner) : (b.modScanner f).link = b.link := rfl
@[simp] theorem Bank.outbox_modScanner (f : Scanner → Scanner) : (b.modScanner f).outbox = b.outbox := rfl
@[simp] theorem Bank.run_modScanner (f : Scanner → Scanner) : (b.modScanner f).run u = b.run u := rfl
@[simp] theorem Bank.hold_modScanner (f : Scanner → Scanner) : (b.modScanner f).hold u = b.hold u := rfl
@[simp] theorem Bank.ramp_modScanner (f : Scanner → Scanner) : (b.modScanner f).ramp u = b.ramp u := rfl
@[simp] theorem Bank.loops_modScanner (f : Scanner → Scanner) : (b.modScanner f).loops u = b.loops u := rfl
@[simp] theorem Bank.share_modScanner (f : Scanner → Scanner) : (b.modScanner f).share u = b.share u := rfl
@[simp] theorem Bank.gas_modScanner (f : Scanner → Scanner) : (b.modScanner f).gas u = b.gas u := rfl
@[simp] theorem Bank.gate_modScanner (f : Scanner → Scanner) : (b.modScanner f).gate u = b.gate u := rfl
@[simp] theorem Bank.boat_modScanner (f : Scanner → Scanner) : (b.modScanner f).boat u = b.boat u := rfl
@[simp] theorem Bank.tube_modScanner (f : Scanner → Scanner) : (b.modScanner f).tube u = b.tube u := rfl
@[simp] theorem Bank.scanner_modScanner (f : Scanner → Scanner) : (b.modScanner f).scanner = f b.scanner := rfl
@[simp] theorem Bank.tubes_modLink (f : Link → Link) : (b.modLink f).tubes = b.tubes := rfl
@[simp] theorem Bank.clock_modLink (f : Link → Link) : (b.modLink f).clock = b.clock := rfl
@[simp] theorem Bank.powerLimit_modLink (f : Link → Link) : (b.modLink f).powerLimit = b.powerLimit := rfl
@[simp] theorem Bank.scanner_modLink (f : Link → Link) : (b.modLink f).scanner = b.scanner := rfl
@[simp] theorem Bank.gasMap_modLink (f : Link → Link) : (b.modLink f).gasMap = b.gasMap := rfl
@[simp] theorem Bank.supply_modLink (f : Link → Link) : (b.modLink f).supply = b.supply := rfl
@[simp] theorem Bank.threshold_modLink (f : Link → Link) : (b.modLink f).threshold = b.threshold := rfl
@[simp] theorem Bank.ratio_modLink (f : Link → Link) : (b.modLink f).ratio = b.ratio := rfl
@[simp] theorem Bank.interlock_modLink (f : Link → Link) : (b.modLink f).interlock = b.interlock := rfl
@[simp] theorem Bank.outbox_modLink (f : Link → Link) : (b.modLink f).outbox = b.outbox := rfl
@[simp] theorem Bank.run_modLink (f : Link → Link) : (b.modLink f).run u = b.run u := rfl
@[simp] theorem Bank.hold_modLink (f : Link → Link) : (b.modLink f).hold u = b.hold u := rfl
@[simp] theorem Bank.ramp_modLink (f : Link → Link) : (b.modLink f).ramp u = b.ramp u := rfl
@[simp] theorem Bank.loops_modLink (f : Link → Link) : (b.modLink f).loops u = b.loops u := rfl
@[simp] theorem Bank.share_modLink (f : Link → Link) : (b.modLink f).share u = b.share u := rfl
@[simp] theorem Bank.gas_modLink (f : Link → Link) : (b.modLink f).gas u = b.gas u := rfl
@[simp] theorem Bank.gate_modLink (f : Link → Link) : (b.modLink f).gate u = b.gate u := rfl
@[simp] theorem Bank.boat_modLink (f : Link → Link) : (b.modLink f).boat u = b.boat u := rfl
@[simp] theorem Bank.tube_modLink (f : Link → Link) : (b.modLink f).tube u = b.tube u := rfl
@[simp] theorem Bank.link_modLink (f : Link → Link) : (b.modLink f).link = f b.link := rfl
@[simp] theorem Bank.tubes_modGroup (g : Group) (f : InterlockGroup → InterlockGroup) : (b.modGroup g f).tubes = b.tubes := rfl
@[simp] theorem Bank.clock_modGroup (g : Group) (f : InterlockGroup → InterlockGroup) : (b.modGroup g f).clock = b.clock := rfl
@[simp] theorem Bank.powerLimit_modGroup (g : Group) (f : InterlockGroup → InterlockGroup) : (b.modGroup g f).powerLimit = b.powerLimit := rfl
@[simp] theorem Bank.scanner_modGroup (g : Group) (f : InterlockGroup → InterlockGroup) : (b.modGroup g f).scanner = b.scanner := rfl
@[simp] theorem Bank.gasMap_modGroup (g : Group) (f : InterlockGroup → InterlockGroup) : (b.modGroup g f).gasMap = b.gasMap := rfl
@[simp] theorem Bank.supply_modGroup (g : Group) (f : InterlockGroup → InterlockGroup) : (b.modGroup g f).supply = b.supply := rfl
@[simp] theorem Bank.threshold_modGroup (g : Group) (f : InterlockGroup → InterlockGroup) : (b.modGroup g f).threshold = b.threshold := rfl
@[simp] theorem Bank.ratio_modGroup (g : Group) (f : InterlockGroup → InterlockGroup) : (b.modGroup g f).ratio = b.ratio := rfl
@[simp] theorem Bank.link_modGroup (g : Group) (f : InterlockGroup → InterlockGroup) : (b.modGroup g f).link = b.link := rfl
@[simp] theorem Bank.outbox_modGroup (g : Group) (f : InterlockGroup → InterlockGroup) : (b.modGroup g f).outbox = b.outbox := rfl
@[simp] theorem Bank.run_modGroup (g : Group) (f : InterlockGroup → InterlockGroup) : (b.modGroup g f).run u = b.run u := rfl
@[simp] theorem Bank.hold_modGroup (g : Group) (f : InterlockGroup → InterlockGroup) : (b.modGroup g f).hold u = b.hold u := rfl
@[simp] theorem Bank.ramp_modGroup (g : Group) (f : InterlockGroup → InterlockGroup) : (b.modGroup g f).ramp u = b.ramp u := rfl
@[simp] theorem Bank.loops_modGroup (g : Group) (f : InterlockGroup → InterlockGroup) : (b.modGroup g f).loops u = b.loops u := rfl
@[simp] theorem Bank.share_modGroup (g : Group) (f : InterlockGroup → InterlockGroup) : (b.modGroup g f).share u = b.share u := rfl
@[simp] theorem Bank.gas_modGroup (g : Group) (f : InterlockGroup → InterlockGroup) : (b.modGroup g f).gas u = b.gas u := rfl
@[simp] theorem Bank.gate_modGroup (g : Group) (f : InterlockGroup → InterlockGroup) : (b.modGroup g f).gate u = b.gate u := rfl
@[simp] theorem Bank.boat_modGroup (g : Group) (f : InterlockGroup → InterlockGroup) : (b.modGroup g f).boat u = b.boat u := rfl
@[simp] theorem Bank.tube_modGroup (g : Group) (f : InterlockGroup → InterlockGroup) : (b.modGroup g f).tube u = b.tube u := rfl
@[simp] theorem Bank.tables_modGroup (g : Group) (f : InterlockGroup → InterlockGroup) : (b.modGroup g f).interlock.tables = b.interlock.tables := rfl
@[simp] theorem Bank.tubes_hunting  : (b.hunting).tubes = b.tubes := rfl
@[simp] theorem Bank.clock_hunting  : (b.hunting).clock = b.clock := rfl
@[simp] theorem Bank.powerLimit_hunting  : (b.hunting).powerLimit = b.powerLimit := rfl
@[simp] theorem Bank.scanner_hunting  : (b.hunting).scanner = b.scanner := rfl
@[simp] theorem Bank.gasMap_hunting  : (b.hunting).gasMap = b.gasMap := rfl
@[simp] theorem Bank.supply_hunting  : (b.hunting).supply = b.supply := rfl
@[simp] theorem Bank.threshold_hunting  : (b.hunting).threshold = b.threshold := rfl
@[simp] theorem Bank.ratio_hunting  : (b.hunting).ratio = b.ratio := rfl
@[simp] theorem Bank.interlock_hunting  : (b.hunting).interlock = b.interlock := rfl
@[simp] theorem Bank.outbox_hunting  : (b.hunting).outbox = b.outbox := rfl
@[simp] theorem Bank.run_hunting  : (b.hunting).run u = b.run u := rfl
@[simp] theorem Bank.hold_hunting  : (b.hunting).hold u = b.hold u := rfl
@[simp] theorem Bank.ramp_hunting  : (b.hunting).ramp u = b.ramp u := rfl
@[simp] theorem Bank.loops_hunting  : (b.hunting).loops u = b.loops u := rfl
@[simp] theorem Bank.share_hunting  : (b.hunting).share u = b.share u := rfl
@[simp] theorem Bank.gas_hunting  : (b.hunting).gas u = b.gas u := rfl
@[simp] theorem Bank.gate_hunting  : (b.hunting).gate u = b.gate u := rfl
@[simp] theorem Bank.boat_hunting  : (b.hunting).boat u = b.boat u := rfl
@[simp] theorem Bank.tube_hunting  : (b.hunting).tube u = b.tube u := rfl
@[simp] theorem Bank.replies_hunting : b.hunting.link.replies = b.link.replies := rfl

/-! ## Updates together -/

theorem Bank.tube_getElem (i : Nat) (h : i < 4) : b.tubes[i] = b.tube ⟨i, h⟩ := rfl

/-- Two banks are equal when their tubes are, and everything they hold beside them. -/
theorem Bank.ext_tubes {b b' : Bank} (tubes : ∀ u, b.tube u = b'.tube u) (rest : { b with tubes := b'.tubes } = b') :
    b = b' := by
  rw [← rest]
  have : b.tubes = b'.tubes := by
    apply Vector.ext
    intro i h
    exact tubes ⟨i, h⟩
  rw [← this]

/-- An update that changes nothing. -/
theorem Bank.modTube_self (f : TubeState → TubeState) (h : f (b.tube t) = b.tube t) : b.modTube t f = b := by
  refine Bank.ext_tubes (fun u => ?_) rfl
  rw [Bank.tube_modTube]
  split
  · subst_vars; exact h
  · rfl

/-- Two updates of one tube are one. -/
theorem Bank.modTube_modTube (f g : TubeState → TubeState) :
    (b.modTube t f).modTube t g = b.modTube t fun x => g (f x) := by
  refine Bank.ext_tubes (fun u => ?_) rfl
  simp only [Bank.tube_modTube]
  split <;> simp

/-- Updates of one tube that agree on it. -/
theorem Bank.modTube_congr {f g : TubeState → TubeState} (h : f (b.tube t) = g (b.tube t)) :
    b.modTube t f = b.modTube t g := by
  unfold Bank.modTube; rw [h]

theorem Bank.report_modTube (f : TubeState → TubeState) (x : Option Tube) (k : ReportKind) (d1 d2 d3 : Option Int)
    (n : Nat) : (b.modTube t f).report x k d1 d2 d3 n = (b.report x k d1 d2 d3 n).modTube t f := rfl

theorem Bank.modSupply_modTube (f : TubeState → TubeState) (g : Supply → Supply) :
    (b.modTube t f).modSupply g = (b.modSupply g).modTube t f := rfl

@[simp] theorem Bank.outbox_report (x : Option Tube) (k : ReportKind) (d1 d2 d3 : Option Int) (n : Nat) :
    (b.report x k d1 d2 d3 n).outbox = b.outbox ++ [⟨b.clock, x, k, k.level n, d1, d2, d3⟩] := rfl

end Sys2Proof.Machine
end

