-- ==== Sys2Proof/Laws/Hold.lean ====
section
/-! SUPPORT. The Hold Unit's own operations: each keeps `HoldUnit.ordered`, and what each does to the hold level. -/

namespace Sys2Proof.Machine

theorem Source.code_injective {s s' : Source} (h : s.code = s'.code) : s = s' := by
  cases s <;> cases s' <;> simp_all [Source.code]

/-! ## The sorted sets -/

theorem mem_insertSource {s x : Source} {l : List Source} (h : x ∈ insertSource s l) : x = s ∨ x ∈ l := by
  induction l with
  | nil => simp_all [insertSource]
  | cons y l ih =>
    unfold insertSource at h
    split at h
    · exact .inr h
    · split at h
      · simpa using h
      · rcases List.mem_cons.1 h with h | h
        · simp [h]
        · rcases ih h with h | h <;> simp [h]

theorem insertSource_sorted {s : Source} {l : List Source} (h : (l.map Source.code).Pairwise (· < ·)) :
    ((insertSource s l).map Source.code).Pairwise (· < ·) := by
  induction l with
  | nil => simp [insertSource]
  | cons y l ih =>
    unfold insertSource
    simp only [List.map_cons, List.pairwise_cons, List.mem_map, forall_exists_index, and_imp] at h
    split
    · simpa using h
    · rename_i hne
      split
      · rename_i hlt
        simp only [List.map_cons, List.pairwise_cons, List.mem_cons, List.mem_map, forall_eq_or_imp,
          forall_exists_index, and_imp]
        exact ⟨⟨hlt, fun a x hx e => by have := h.1 a x hx e; omega⟩, h⟩
      · rename_i hge
        simp only [List.map_cons, List.pairwise_cons, List.mem_map, forall_exists_index, and_imp]
        refine ⟨fun a x hx e => ?_, ih h.2⟩
        rcases mem_insertSource hx with rfl | hx
        · have : x.code ≠ y.code := fun e => hne (Source.code_injective e).symm
          omega
        · exact h.1 a x hx e

theorem mem_insertEntry {e x : PendingEntry} {l : List PendingEntry} (h : x ∈ insertEntry e l) : x = e ∨ x ∈ l := by
  induction l with
  | nil => simp_all [insertEntry]
  | cons y l ih =>
    unfold insertEntry at h
    split at h
    · rcases List.mem_cons.1 h with h | h <;> simp [h]
    · split at h
      · simpa using h
      · rcases List.mem_cons.1 h with h | h
        · simp [h]
        · rcases ih h with h | h <;> simp [h]

theorem insertEntry_sorted {e : PendingEntry} {l : List PendingEntry}
    (h : (l.map (·.source.code)).Pairwise (· < ·)) : ((insertEntry e l).map (·.source.code)).Pairwise (· < ·) := by
  induction l with
  | nil => simp [insertEntry]
  | cons y l ih =>
    unfold insertEntry
    simp only [List.map_cons, List.pairwise_cons, List.mem_map, forall_exists_index, and_imp] at h
    split
    · rename_i he
      simp only [List.map_cons, List.pairwise_cons, List.mem_map, forall_exists_index, and_imp]
      exact ⟨fun a x hx e' => by rw [← he]; exact h.1 a x hx e', h.2⟩
    · rename_i hne
      split
      · rename_i hlt
        simp only [List.map_cons, List.pairwise_cons, List.mem_cons, List.mem_map, forall_eq_or_imp,
          forall_exists_index, and_imp]
        exact ⟨⟨hlt, fun a x hx e => by have := h.1 a x hx e; omega⟩, h⟩
      · rename_i hge
        simp only [List.map_cons, List.pairwise_cons, List.mem_map, forall_exists_index, and_imp]
        refine ⟨fun a x hx e' => ?_, ih h.2⟩
        rcases mem_insertEntry hx with rfl | hx
        · have : x.source.code ≠ y.source.code := fun e => hne (Source.code_injective e).symm
          omega
        · exact h.1 a x hx e'

/-! ## Marks and records -/

theorem HoldUnit.level_mark (h : HoldUnit) (s : Source) (p : Bool) : (h.mark s p).level = h.level := by
  cases hs : h.stack with
  | nil => simp [HoldUnit.mark, HoldUnit.level, hs]
  | cons f l => simp only [HoldUnit.mark, HoldUnit.level, hs, List.map_cons]; split <;> rfl

theorem HoldUnit.ordered_mark {h : HoldUnit} (o : h.ordered) (s : Source) (p : Bool) : (h.mark s p).ordered := by
  obtain ⟨a, b, c, d, e, f⟩ := o
  refine ⟨?_, ?_, ?_, ?_, e, f⟩
  · have : (h.mark s p).stack.map (·.level) = h.stack.map (·.level) := by
      simp only [HoldUnit.mark, List.map_map]
      apply List.map_congr_left
      intro x _; simp only [Function.comp]; split <;> rfl
    rw [this]; exact a
  · intro x hx
    simp only [HoldUnit.mark, List.mem_map] at hx
    obtain ⟨y, hy, rfl⟩ := hx
    split <;> exact b y hy
  · have : (h.mark s p).pending.map (·.source.code) = h.pending.map (·.source.code) := by
      simp only [HoldUnit.mark, List.map_map]
      apply List.map_congr_left
      intro x _; simp only [Function.comp]; split <;> rfl
    rw [this]; exact c
  · intro x hx
    simp only [HoldUnit.mark, List.mem_map] at hx
    obtain ⟨y, hy, rfl⟩ := hx
    split <;> exact d y hy

theorem HoldUnit.level_setRecord (h : HoldUnit) (s : Source) (r : SourceRecord) : (h.setRecord s r).level = h.level := by
  unfold HoldUnit.setRecord; split <;> rfl

theorem HoldUnit.ordered_setRecord {h : HoldUnit} (o : h.ordered) (s : Source) (r : SourceRecord)
    (hr : r.present = true → heldLevel r.level) : (h.setRecord s r).ordered := by
  unfold HoldUnit.setRecord
  split
  · exact o
  · rename_i i _
    obtain ⟨a, b, c, d, e, f⟩ := o
    refine ⟨a, b, c, d, e, fun j => ?_⟩
    by_cases hj : i = j
    · subst hj; simpa using hr
    · have : i.val ≠ j.val := fun e => hj (Fin.ext e)
      simpa [this] using f j

/-! ## Pushing and making pending -/

theorem HoldUnit.stack_le_level {h : HoldUnit} (o : h.ordered) : ∀ f ∈ h.stack, f.level ≤ h.level := by
  intro f hf
  have a := o.1
  cases hs : h.stack with
  | nil => simp [hs] at hf
  | cons g l =>
    simp only [hs, List.map_cons, List.pairwise_cons, List.mem_map, forall_exists_index, and_imp] at a hf
    rcases List.mem_cons.1 hf with rfl | hf
    · simp [HoldUnit.level, hs]
    · have := a.1 _ f hf rfl
      simp only [HoldUnit.level, hs]; omega

theorem HoldUnit.level_lt_of_threshold {h : HoldUnit} {L : Nat} (ht : h.threshold ≤ L) (hL : L ≤ 7)
    (hh : h.level ≤ 7) (h7 : ¬(L = 7 ∧ h.level = 7)) : h.level < L := by
  unfold HoldUnit.threshold at ht
  unfold HoldUnit.level at *
  cases hs : h.stack with
  | nil => simp_all; omega
  | cons f l => simp only [hs] at *; split at ht <;> omega

theorem HoldUnit.ordered_push {h : HoldUnit} (o : h.ordered) {f : Frame} (hf : heldLevel f.level)
    (hl : h.level < f.level) : (h.push f).ordered := by
  have hs := HoldUnit.stack_le_level o
  obtain ⟨a, b, c, d, e, g⟩ := o
  refine ⟨?_, ?_, ?_, ?_, ?_, g⟩
  · simp only [HoldUnit.push, List.map_cons, List.pairwise_cons, List.mem_map, forall_exists_index, and_imp]
    exact ⟨fun x y hy e => by have := hs y hy; omega, a⟩
  · simp only [HoldUnit.push, List.mem_cons, forall_eq_or_imp]; exact ⟨hf, b⟩
  · exact List.Pairwise.sublist (List.Sublist.map _ (List.filter_sublist)) c
  · intro x hx; exact d x (List.mem_filter.1 hx).1
  · simp only [HoldUnit.push]
    split
    · exact insertSource_sorted e
    · exact e

theorem HoldUnit.ordered_insertEntry {h : HoldUnit} (o : h.ordered) {e : PendingEntry} (he : 1 ≤ e.level ∧ e.level ≤ 6) :
    HoldUnit.ordered { h with pending := insertEntry e h.pending } := by
  obtain ⟨a, b, c, d, f, g⟩ := o
  refine ⟨a, b, insertEntry_sorted c, fun x hx => ?_, f, g⟩
  rcases mem_insertEntry hx with rfl | hx
  · exact he
  · exact d x hx

theorem HoldUnit.ordered_insertSource {h : HoldUnit} (o : h.ordered) (s : Source) :
    HoldUnit.ordered { h with level7 := insertSource s h.level7 } := by
  obtain ⟨a, b, c, d, f, g⟩ := o
  exact ⟨a, b, c, d, insertSource_sorted f, g⟩

/-! ## Taking away -/

theorem HoldUnit.ordered_filter {h : HoldUnit} (o : h.ordered) (p : PendingEntry → Bool) :
    HoldUnit.ordered { h with pending := h.pending.filter p } := by
  obtain ⟨a, b, c, d, f, g⟩ := o
  exact ⟨a, b, c.sublist (List.Sublist.map _ List.filter_sublist), fun x hx => d x (List.mem_filter.1 hx).1, f, g⟩

theorem HoldUnit.ordered_pop {h : HoldUnit} (o : h.ordered) : HoldUnit.ordered { h with stack := h.stack.drop 1 } := by
  obtain ⟨a, b, c, d, f, g⟩ := o
  exact ⟨a.sublist (List.Sublist.map _ (List.drop_sublist _ _)), fun x hx => b x (List.mem_of_mem_drop hx), c, d, f, g⟩

theorem HoldUnit.ordered_empty {h : HoldUnit} (o : h.ordered) : HoldUnit.ordered { h with stack := [], pending := [] } := by
  obtain ⟨a, b, c, d, f, g⟩ := o
  exact ⟨by simp, by simp, by simp, by simp, f, g⟩

theorem HoldUnit.ordered_level7 {h : HoldUnit} (o : h.ordered) : HoldUnit.ordered { h with level7 := [] } := by
  obtain ⟨a, b, c, d, f, g⟩ := o
  exact ⟨a, b, c, d, by simp, g⟩

theorem HoldUnit.level_le {h : HoldUnit} (o : h.ordered) : h.level ≤ 7 := by
  cases hs : h.stack with
  | nil => simp [HoldUnit.level, hs]
  | cons f l =>
    have := (o.2.1 f (by simp [hs])).2
    simpa [HoldUnit.level, hs] using this

/-! ## Choosing an entry -/

theorem chooseEntry_mem {l : List PendingEntry} {e : PendingEntry} (h : chooseEntry l = some e) : e ∈ l := by
  induction l generalizing e with
  | nil => simp [chooseEntry] at h
  | cons x l ih =>
    unfold chooseEntry at h
    split at h
    · simp at h; simp [h]
    · rename_i y hy
      split at h <;> simp at h
      · subst h; exact List.mem_cons_of_mem _ (ih hy)
      · simp [h]

theorem HoldUnit.entry_mem {h : HoldUnit} {s : Source} {e : PendingEntry} (he : h.entry s = some e) : e ∈ h.pending :=
  List.mem_of_find?_eq_some he

end Sys2Proof.Machine
end

