-- ==== Sys2Proof/Laws/Kept.lean ====
section
/-! SUPPORT. What the shared operations keep. A property that the primitive updates of the bank keep (`Kept`) is kept by
every operation of the blocks that writes no setting, publication of hold levels included: one lemma per operation. Two
sets of tubes say where the property may for a moment stand open: `S` holds the tubes whose effective setpoints are not
formed yet, `U` those whose hold level is not published yet. -/

namespace Sys2Proof.Machine

/-- A set of tubes with one more. -/
def withTube (S : Tube → Prop) (t : Tube) : Tube → Prop := fun u => S u ∨ u = t

/-- What a response to a hold level, or an order that starts, may do to a Boat Drive; `q` says whether the position, the
LOCATE order and the paddle invariant matter. -/
structure BoatStep (q : Prop) (x y : Boat) : Prop where
  rail : y.rail = x.rail
  table : y.table = x.table
  raw : y.sensorRaw = x.sensorRaw
  sensor : y.sensor = x.sensor
  position : q → y.position = x.position
  locate : q → x.locate = none → y.locate = none
  onRail : q → x.onRail → y.onRail

/-- What a property has to keep: every primitive update of the bank, the settings and the Boat Drive's positions apart. `q`
says whether it speaks of the Boat Drives' positions, `w` whether it speaks of the order of the Hold Units. -/
structure Kept (q w : Prop) (R : Tube → Option Rail) (P : (Tube → Prop) → (Tube → Prop) → Bank → Prop) : Prop where
  rails : ∀ {S U b}, P S U b → ∀ t, (b.boat t).rail = R t
  unformed : ∀ {S U b} t, P S U b → P (withTube S t) U b
  unpublished : ∀ {S U b} t, P S U b → P S (withTube U t) b
  report : ∀ {S U b} t k d1 d2 d3 L, P S U b → P S U (b.report t k d1 d2 d3 L)
  supply : ∀ {S U b} (f : Supply → Supply), (f b.supply).limits = b.supply.limits → P S U b → P S U (b.modSupply f)
  tc : ∀ {S U b} (v : Vector Bool 4), P S U b → P S U (b.modScanner fun s => { s with tc := v })
  run : ∀ {S U b} t (f : RunEngine → RunEngine), (f (b.run t)).records = (b.run t).records →
    ((f (b.run t)).state = .unconfigured → (b.run t).state = .unconfigured) → P S U b → P S U (b.modRun t f)
  ramp : ∀ {S U b} t (f : Ramp → Ramp), P S U b → P S U (b.modRamp t f)
  loops : ∀ {S U b} t (f : Vector ZoneLoop 3 → Vector ZoneLoop 3),
    (∀ z : Zone, (b.loops t)[z].delivered ≤ (b.loops t)[z].output →
      (f (b.loops t))[z].delivered ≤ (f (b.loops t))[z].output) → P S U b → P S U (b.modLoops t f)
  gas : ∀ {S U b} t (f : GasUnit → GasUnit), (f (b.gas t)).config = (b.gas t).config →
    (∀ c : Channel, (f (b.gas t)).channels[c].effective = (b.gas t).channels[c].effective) →
    P S U b → P S U (b.modGas t f)
  drive : ∀ {S U b} t, P (withTube S t) U b → P S U (b.modGas t fun g => { g with channels := b.drivenChannels t })
  gate : ∀ {S U b} t (f : PurgeGate → PurgeGate), ((b.gate t).isOpen = true → (f (b.gate t)).isOpen = true) →
    P S U b → P S U (b.modGate t f)
  gateClose : ∀ {S U b} t (f : PurgeGate → PurgeGate), P S U b → P (withTube S t) U (b.modGate t f)
  hold : ∀ {S U b} t (f : HoldUnit → HoldUnit), (f (b.hold t)).published = (b.hold t).published →
    (w → (b.hold t).ordered → (f (b.hold t)).ordered) → P S U b → P S (withTube U t) (b.modHold t f)
  holdLevel : ∀ {S U b} t (f : HoldUnit → HoldUnit), (f (b.hold t)).published = (b.hold t).published →
    (f (b.hold t)).level = (b.hold t).level →
    (w → (b.hold t).ordered → (f (b.hold t)).ordered) → P S U b → P S U (b.modHold t f)
  published : ∀ {S U b} t, P S (withTube U t) b → P S U (b.modHold t fun h => { h with published := (b.hold t).level })
  boat : ∀ {S U b} t (f : Boat → Boat), BoatStep q (b.boat t) (f (b.boat t)) → P S U b → P S U (b.modBoat t f)

/-- A publisher that keeps a property. -/
def Keeps (P : (Tube → Prop) → (Tube → Prop) → Bank → Prop) (pub : Publisher) : Prop :=
  ∀ {S U b} t, P S (withTube U t) b → P S U (pub t b)

variable {q w : Prop} {R : Tube → Option Rail} {P : (Tube → Prop) → (Tube → Prop) → Bank → Prop} {pub : Publisher}
variable {S U : Tube → Prop} {b : Bank}

theorem withTube_idem (U : Tube → Prop) (t : Tube) : withTube (withTube U t) t = withTube U t := by
  funext u; simp [withTube]

theorem republish {c : Bank} {t : Tube} (h : P S (withTube U t) b)
    (f : ∀ {U}, P S U b → P S (withTube U t) c) : P S (withTube U t) c := by
  have := f h; rwa [withTube_idem] at this

theorem kept_ite {c : Prop} [Decidable c] {x y : Bank} (h1 : c → P S U x) (h2 : ¬c → P S U y) :
    P S U (if c then x else y) := by
  split
  · exact h1 ‹_›
  · exact h2 ‹_›

/-! ## The Hold Unit -/

theorem foldKept {α : Type} (l : List α) (f : Bank → α → Bank)
    (hf : ∀ b x, P S U b → P S U (f b x)) (h : P S U b) : P S U (l.foldl f b) := by
  induction l generalizing b with
  | nil => exact h
  | cons x l ih => exact ih (hf _ _ h)

theorem Kept.pushHold (K : Kept q w R P) (t : Tube) (s : Source) (L : Nat)
    (hL : w → (b.hold t).ordered → heldLevel L ∧ (b.hold t).level < L) (h : P S U b) :
    P S (withTube U t) (b.pushHold t s L) :=
  K.report _ _ _ _ _ _
    (K.hold t (fun h => h.push _) rfl (fun k o => HoldUnit.ordered_push o (hL k o).1 (hL k o).2) h)

theorem Kept.reportWithdrawn (K : Kept q w R P) (t c) (e : PendingEntry) (h : P S U b) :
    P S U (b.reportWithdrawn t c e) := K.report _ _ _ _ _ _ h

theorem Kept.reportReleased (K : Kept q w R P) (t s L c) (h : P S U b) :
    P S U (b.reportReleased t s L c) := K.report _ _ _ _ _ _ h

theorem Kept.makePending (K : Kept q w R P) (t : Tube) (s : Source) (L : Nat) (old : Option PendingEntry)
    (hL : w → (b.hold t).ordered → (1 ≤ L ∧ L ≤ 6) ∧ ∀ e, old = some e → 1 ≤ e.level ∧ e.level ≤ 6) (h : P S U b) :
    P S U (b.makePending t s L old) := by
  have h1 := K.holdLevel t (fun h => { h with pending := insertEntry (pendingAfter old s L b.clock).1 h.pending })
    rfl rfl (fun k o => HoldUnit.ordered_insertEntry o (by
      have := hL k o
      unfold pendingAfter
      cases old with
      | none => exact this.1
      | some e => dsimp only; split; exact this.1; split; exact this.1; exact this.2 _ rfl)) h
  unfold Bank.makePending
  dsimp only
  split
  · exact K.report _ _ _ _ _ _ h1
  · exact h1

/-- The level a source asks: a hold level, or the one its present record holds. -/
def asks (h : HoldUnit) (s : Source) (L : Nat) : Prop := heldLevel L ∨ h.sourceRecord s = ⟨true, L⟩

theorem HoldUnit.heldLevel_of_record {h : HoldUnit} (o : h.ordered) {s : Source} {L : Nat}
    (hr : h.sourceRecord s = ⟨true, L⟩) : heldLevel L := by
  unfold HoldUnit.sourceRecord at hr
  split at hr
  · simp at hr
  · rename_i i _
    have := o.2.2.2.2.2 i
    rw [hr] at this
    exact this rfl

theorem asks.held {h : HoldUnit} {s : Source} {L : Nat} (ha : asks h s L) (o : h.ordered) : heldLevel L :=
  ha.elim id (HoldUnit.heldLevel_of_record o)

theorem asks.marked {h : HoldUnit} {s : Source} {L : Nat} (ha : asks h s L) :
    asks ((h.setRecord s ⟨true, L⟩).mark s true) s L := by
  rcases ha with ha | ha
  · exact .inl ha
  · refine .inr ?_
    unfold HoldUnit.sourceRecord HoldUnit.setRecord at *
    split at ha
    · simp at ha
    · rename_i i hi
      simp [HoldUnit.mark]

/-- A raise as far as the Hold Unit's structures go: the level stands unpublished only after a take. -/
theorem Kept.decideRaise (K : Kept q w R P) (t : Tube) (s : Source) (L : Nat) (hL : w → asks (b.hold t) s L) (h : P S U b) :
    P S (withTube U t) (b.decideRaise t s L).1 ∧
      ((b.decideRaise t s L).2 ≠ .taken → P S U (b.decideRaise t s L).1) := by
  have h0 : P S U (b.modHold t fun h => (h.setRecord s ⟨true, L⟩).mark s true) :=
    K.holdLevel t _ (by unfold HoldUnit.setRecord; split <;> rfl)
      (by rw [HoldUnit.level_mark, HoldUnit.level_setRecord])
      (fun k o => HoldUnit.ordered_mark (HoldUnit.ordered_setRecord o _ _ fun _ => (hL k).held o) _ _) h
  have hA : w → asks ((b.modHold t fun h => (h.setRecord s ⟨true, L⟩).mark s true).hold t) s L := by
    intro k; simpa using (hL k).marked
  have hE : ∀ e, (b.hold t).entry s = some e →
      ∃ e' ∈ ((b.modHold t fun h => (h.setRecord s ⟨true, L⟩).mark s true).hold t).pending, e'.level = e.level := by
    intro e he
    refine ⟨if e.source = s then { e with present := true } else e, ?_, by split <;> rfl⟩
    simp only [Bank.hold_modHold_self, HoldUnit.mark, List.mem_map]
    refine ⟨e, ?_, rfl⟩
    have := HoldUnit.entry_mem he
    unfold HoldUnit.setRecord; split <;> exact this
  unfold Bank.decideRaise
  dsimp only
  generalize (b.modHold t fun h => (h.setRecord s ⟨true, L⟩).mark s true) = x at *
  split
  · exact ⟨K.unpublished t h0, fun _ => h0⟩
  · have h1 := K.report (some t) .level7Absorbed (some s.code) none none 0
      (K.holdLevel t (fun h => { h with level7 := insertSource s h.level7 }) rfl rfl
        (fun _ o => HoldUnit.ordered_insertSource o s) h0)
    exact ⟨K.unpublished t h1, fun _ => h1⟩
  · rename_i hd
    refine ⟨K.pushHold t s L (fun k o => ⟨(hA k).held o, ?_⟩) h0, fun hn => absurd rfl hn⟩
    unfold HoldUnit.disposition at hd
    split at hd
    · cases hd
    · split at hd
      · cases hd
      · split at hd
        · rename_i h7 ht
          exact HoldUnit.level_lt_of_threshold ht.1 ((hA k).held o).2 (HoldUnit.level_le o) h7
        · cases hd
  · rename_i hd
    have h1 := K.makePending t s L ((b.hold t).entry s) (b := x) (fun k o => ⟨⟨((hA k).held o).1, ?_⟩, ?_⟩) h0
    · exact ⟨K.unpublished t h1, fun _ => h1⟩
    · have h7 := ((hA k).held o).2
      unfold HoldUnit.disposition at hd
      split at hd
      · cases hd
      · split at hd
        · cases hd
        · split at hd
          · cases hd
          · rename_i ht
            have : (x.hold t).threshold ≤ 7 := by unfold HoldUnit.threshold; split; omega; split <;> omega
            have : ¬ L = 7 := fun e => ht ⟨by omega, .inl (by omega)⟩
            omega
    · intro e he
      obtain ⟨e', hm, hl⟩ := hE e he
      rw [← hl]; exact o.2.2.2.1 e' hm

theorem Kept.raise (K : Kept q w R P) (hp : Keeps P pub) (t : Tube) (s : Source) (L : Nat) (hL : w → heldLevel L)
    (h : P S U b) : P S U (b.raise pub t s L) := by
  have := K.decideRaise t s L (fun k => .inl (hL k)) h
  unfold Bank.raise
  dsimp only
  split
  · exact hp t this.1
  · rename_i hn; exact this.2 hn

theorem Kept.clear (K : Kept q w R P) (t : Tube) (s : Source) (h : P S U b) : P S U (b.clear t s) := by
  refine K.holdLevel t _ (by unfold HoldUnit.setRecord; split <;> rfl)
    (by rw [HoldUnit.level_mark, HoldUnit.level_setRecord])
    (fun _ o => HoldUnit.ordered_mark (HoldUnit.ordered_setRecord o _ _ fun h => by simp at h) _ _) h

theorem Kept.withdrawCleared (K : Kept q w R P) (t : Tube) (h : P S U b) : P S U (b.withdrawCleared t) :=
  foldKept _ _ (fun _ e h => K.reportWithdrawn t .cleared e h)
    (K.holdLevel t (fun h => { h with pending := h.pending.filter fun e => e.present }) rfl rfl
      (fun _ o => HoldUnit.ordered_filter o _) h)

theorem Kept.reexamineHolds (K : Kept q w R P) (t : Tube) (h : P S U b) : P S (withTube U t) (b.reexamineHolds t) := by
  have h1 := K.withdrawCleared t h
  unfold Bank.reexamineHolds
  dsimp only
  generalize b.withdrawCleared t = x at *
  split
  · exact K.unpublished t h1
  · rename_i e he
    split
    · rename_i ht
      refine K.pushHold t _ _ (fun _ o => ?_) h1
      have := o.2.2.2.1 e (chooseEntry_mem he)
      exact ⟨⟨this.1, by omega⟩, HoldUnit.level_lt_of_threshold ht.1 (by omega) (HoldUnit.level_le o) (by omega)⟩
    · exact K.unpublished t h1

theorem Kept.popHold (K : Kept q w R P) (hp : Keeps P pub) (t : Tube) (f : Frame) (h : P S U b) : P S U (b.popHold pub t f) := by
  refine hp t ?_
  have h1 := K.reportReleased t f.source f.level .release
    (K.hold t (fun h => { h with stack := h.stack.drop 1 }) rfl (fun _ o => HoldUnit.ordered_pop o) h)
  exact republish h1 (K.reexamineHolds t)

theorem Kept.emptyHolds (K : Kept q w R P) (t : Tube) (c : HoldCause) (h : P S U b) : P S (withTube U t) (b.emptyHolds t c) :=
  foldKept _ _ (fun _ e h => K.reportReleased t e.source e.level c h)
    (foldKept _ _ (fun _ f h => K.reportReleased t f.source f.level c h)
      (K.hold t (fun h => { h with stack := [], pending := [] }) rfl (fun _ o => HoldUnit.ordered_empty o) h))

/-- A raise leaves every present record present, and every record as it stands but the source's own. -/
theorem Bank.decideRaise_present (t : Tube) (s s' : Source) (L : Nat) (h : ((b.hold t).sourceRecord s').present = true) :
    (((b.decideRaise t s L).1.hold t).sourceRecord s').present = true := by
  have key : ((b.decideRaise t s L).1.hold t).records = ((b.hold t).setRecord s ⟨true, L⟩).records := by
    unfold Bank.decideRaise Bank.pushHold Bank.makePending
    dsimp only
    split
    · simp [HoldUnit.mark]
    · simp [HoldUnit.mark, Bank.hold_report]
    · simp [HoldUnit.mark, HoldUnit.push, Bank.hold_report]
    · split <;> simp [HoldUnit.mark, Bank.hold_report]
  unfold HoldUnit.sourceRecord at *
  split at h
  · simp at h
  · rename_i i _
    rw [key]
    unfold HoldUnit.setRecord
    split
    · exact h
    · rename_i j _
      by_cases hj : j = i
      · subst hj; simp
      · have : j.val ≠ i.val := fun e => hj (Fin.ext e)
        simpa [this] using h

theorem Kept.presentAll (K : Kept q w R P) (t : Tube) (l : List Source)
    (hl : ∀ s ∈ l, ((b.hold t).sourceRecord s).present = true) (h : P S (withTube U t) b) :
    P S (withTube U t) (l.foldl (fun b s => (b.decideRaise t s ((b.hold t).sourceRecord s).level).1) b) := by
  induction l generalizing b with
  | nil => exact h
  | cons s l ih =>
    refine ih (fun s' hs' => Bank.decideRaise_present t s s' _ (hl s' (List.mem_cons_of_mem _ hs'))) ?_
    refine republish h fun h => (K.decideRaise t s _ (fun _ => .inr ?_) h).1
    rw [← hl s (List.mem_cons_self)]

theorem Kept.presentAgain (K : Kept q w R P) (t : Tube) (h : P S (withTube U t) b) :
    P S (withTube U t) (b.presentAgain t) := by
  refine K.presentAll t _ (fun s hs => ?_) h
  simp only [HoldUnit.standing, List.mem_flatMap, List.mem_filter, Bool.and_eq_true] at hs
  obtain ⟨_, _, _, hs, _⟩ := hs
  exact hs

/-! ## The Ramp Generator -/

theorem Kept.clearLag (K : Kept q w R P) (t : Tube) (h : P S U b) : P S U (b.clearLag t) := by
  unfold Bank.clearLag; split
  · exact K.clear t .rampLag (K.ramp t _ h)
  · exact h

theorem Kept.settleLag (K : Kept q w R P) (t : Tube) (h : P S U b) : P S U (b.settleLag t) := K.clearLag t (K.ramp t _ h)

theorem Kept.endIfReached (K : Kept q w R P) (t : Tube) (h : P S U b) : P S U (b.endIfReached t) := by
  unfold Bank.endIfReached; split
  · exact K.settleLag t (K.ramp t _ h)
  · exact h

theorem Kept.jumpRamp (K : Kept q w R P) (t : Tube) (h : P S U b) : P S U (b.jumpRamp t) := K.endIfReached t (K.ramp t _ h)

theorem Kept.advanceRamp (K : Kept q w R P) (t : Tube) (n : Nat) (h : P S U b) : P S U (b.advanceRamp t n) :=
  K.endIfReached t (K.ramp t _ h)

theorem Kept.reportClamps (K : Kept q w R P) (t : Tube) (o : RampOrder) (h : P S U b) : P S U (b.reportClamps t o) :=
  foldKept _ _ (fun b z h => by split; exact h; exact K.report _ _ _ _ _ _ h) h

theorem Kept.startRamp (K : Kept q w R P) (t : Tube) (o : RampOrder) (h : P S U b) : P S U (b.startRamp t o) := by
  have h1 := K.settleLag t (K.ramp t (fun r => r.restart o (Vector.ofFn fun z => b.rampTarget t o z))
    (K.reportClamps t o h))
  unfold Bank.startRamp
  dsimp only
  split
  · exact K.jumpRamp t h1
  · exact h1

theorem Kept.startSafeRamp (K : Kept q w R P) (t : Tube) (h : P S U b) : P S U (b.startSafeRamp t) := by
  unfold Bank.startSafeRamp; split
  · exact h
  · exact K.startRamp t _ h

theorem Kept.stopRamp (K : Kept q w R P) (t : Tube) (h : P S U b) : P S U (b.stopRamp t) := K.settleLag t (K.ramp t _ h)

theorem Kept.failGuarantee (K : Kept q w R P) (hp : Keeps P pub) (t : Tube) (n : Nat) (h : P S U b) :
    P S U (b.failGuarantee pub t n) := by
  have h1 := K.ramp t (fun r => { r with lagTimer := satAdd r.lagTimer n Config.clockMax }) h
  unfold Bank.failGuarantee
  dsimp only
  split
  · exact K.raise hp t .rampLag 4 (by simp [heldLevel]) (K.ramp t _ h1)
  · exact h1

theorem Kept.rampAtExpiry (K : Kept q w R P) (hp : Keeps P pub) (t : Tube) (n : Nat) (h : P S U b) :
    P S U (b.rampAtExpiry pub t n) := by
  unfold Bank.rampAtExpiry
  dsimp only
  refine kept_ite (fun _ => h) fun _ => kept_ite (fun _ => ?_) fun _ => kept_ite (fun _ => K.settleLag t h) fun _ => h
  refine kept_ite (fun _ => K.jumpRamp t h) fun _ => kept_ite (fun _ => ?_) fun _ => K.advanceRamp t n h
  exact kept_ite (fun _ => K.advanceRamp t n (K.settleLag t h)) fun _ => K.failGuarantee hp t n h

theorem Kept.rampExpiry (K : Kept q w R P) (hp : Keeps P pub) (t : Tube) (h : P S U b) : P S U (b.rampExpiry pub t) := by
  unfold Bank.rampExpiry
  split
  · exact h
  · have h1 := K.rampAtExpiry hp t ‹Nat› h
    unfold Bank.judgeStability
    dsimp only
    split
    · exact h1
    · split
      · exact K.ramp t _ h1
      · exact h1

/-! ## The Gas Channel Unit and the Purge and Gate Unit -/

theorem heldLevel_gas (t : Tube) : heldLevel (b.gasLevel t) := by
  unfold Bank.gasLevel heldLevel; split <;> omega

theorem Kept.judgeGasFlow (K : Kept q w R P) (hp : Keeps P pub) (t : Tube) (h : P S U b) : P S U (b.judgeGasFlow pub t) := by
  unfold Bank.judgeGasFlow
  dsimp only
  have h1 := K.gas t (fun g => { g with
    deviating := allChannels.any fun c => (b.gas t).channels[c].beyond, levelAsked := b.gasLevel t })
    rfl (fun _ => rfl) h
  repeat' split
  all_goals first
    | exact K.raise hp t .gasFlow _ (fun _ => heldLevel_gas t) h1
    | exact h1
    | exact K.clear t .gasFlow h1

theorem Bank.modGas_same (b : Bank) (t : Tube) (f : GasUnit → GasUnit) (hf : f (b.gas t) = b.gas t) : b.modGas t f = b := by
  have e : f (b.tube t).gas = (b.tube t).gas := hf
  unfold Bank.modGas Bank.modTube
  simp only [e]
  have : b.tubes.set t.val (b.tube t) t.isLt = b.tubes := by
    simp [Bank.tube]
  cases b; simp_all

/-- Forming a tube's effective setpoints closes the gap that an unformed tube stands for. -/
theorem Kept.formEffective (K : Kept q w R P) (hp : Keeps P pub) (t : Tube) (h : P (withTube S t) U b) :
    P S U (b.formEffective pub t) := by
  have h1 := K.drive t h
  unfold Bank.formEffective
  dsimp only
  split
  · rename_i e
    rwa [Bank.modGas_same _ _ _ (by rw [e])] at h1
  · exact K.judgeGasFlow hp t h1

theorem Kept.formEffective' (K : Kept q w R P) (hp : Keeps P pub) (t : Tube) (h : P S U b) : P S U (b.formEffective pub t) :=
  K.formEffective hp t (K.unformed t h)

theorem Kept.setRequested (K : Kept q w R P) (t : Tube) (v : Vector Nat 6) (h : P S U b) : P S U (b.setRequested t v) :=
  K.gas t _ rfl (fun c => by simp) h

theorem Kept.gateLoss (K : Kept q w R P) (hp : Keeps P pub) (t : Tube) (h : P S U b) : P S U (b.gateLoss pub t) := by
  unfold Bank.gateLoss; split
  · exact h
  · exact K.raise hp t .gate 6 (by simp [heldLevel]) (K.gate t _ (fun h => h) h)

theorem Kept.closeGate (K : Kept q w R P) (hp : Keeps P pub) (t : Tube) (c n l) (h : P S U b) :
    P S U (b.closeGate pub t c n l) := by
  have h1 := K.report (some t) .gateClosed (some c.code) (n.map fun n => (n : Int)) none 0
    (K.gateClose t (fun g => { g with isOpen := false }) h)
  exact K.formEffective hp t (kept_ite (fun _ => K.gateLoss hp t h1) fun _ => h1)

theorem Kept.sealOpened (K : Kept q w R P) (hp : Keeps P pub) (t : Tube) (h : P S U b) : P S U (b.sealOpened pub t) := by
  have h1 := K.gate t (fun g => { g with sealed := false, credit := 0 }) (fun h => h) h
  unfold Bank.sealOpened
  dsimp only
  split
  · exact K.closeGate hp t _ _ _ h1
  · exact h1

theorem Kept.openGate (K : Kept q w R P) (hp : Keeps P pub) (t : Tube) (x : HandOn) (h : P S U b) : P S U (b.openGate pub t x) :=
  K.formEffective' hp t (K.report _ _ _ _ _ _ (K.gate t (fun g => { g with isOpen := true }) (fun _ => rfl) h))

theorem Kept.judgeGateLost (K : Kept q w R P) (t : Tube) (x : HandOn) (h : P S U b) : P S U (b.judgeGateLost t x) := by
  unfold Bank.judgeGateLost
  exact kept_ite (fun _ => K.clear t .gate (K.gate t (fun g => { g with lost := false }) (fun h => h) h)) fun _ => h

theorem Kept.gateSample (K : Kept q w R P) (hp : Keeps P pub) (t : Tube) (x : HandOn) (h : P S U b) :
    P S U (b.gateSample pub t x) := by
  have h1 := K.gate t (fun g => g.account x) (fun h => h) h
  have h2 := K.gate t (fun g => { g with conditions := (b.modGate t fun g => g.account x).gateConditions t x })
    (fun h => h) h1
  refine K.judgeGateLost t x ?_
  split
  · exact K.openGate hp t x h2
  · exact K.closeGate hp t _ _ _ h2
  · exact h2
  · exact h2

theorem Kept.gasSample (K : Kept q w R P) (hp : Keeps P pub) (t : Tube) (v : Vector FlowReturn 6) (h : P S U b) :
    P S U (b.gasSample pub t v) := by
  unfold Bank.gasSample
  split
  · exact h
  · rename_i g _
    have h1 := K.judgeGasFlow hp t (K.gas t
      (fun u => { u with channels := Vector.ofFn fun c => u.channels[c].sample g.channels[c] (b.measuredFlow t v c) })
      rfl (fun c => by simp [GasChannel.sample]) h)
    refine K.gateSample hp t _ ?_
    unfold Bank.addStepVolume
    split
    · exact K.gas t _ rfl (fun _ => rfl) h1
    · exact h1

/-! ## The Boat Drive -/

/-- An update that touches nothing of `Boat.onRail`. -/
theorem BoatStep.plain {x y : Boat} (h1 : y.rail = x.rail) (h2 : y.table = x.table) (h3 : y.sensorRaw = x.sensorRaw)
    (h4 : y.sensor = x.sensor) (h5 : y.position = x.position) (h6 : y.locate = x.locate) (h7 : y.order = x.order)
    (h8 : y.paddle = x.paddle) (h9 : y.travel = x.travel) : BoatStep q x y :=
  ⟨h1, h2, h3, h4, fun _ => h5, fun _ h => by rw [h6, h], fun _ h => by
    unfold Boat.onRail Boat.locating at *
    rw [h1, h5, h6, h7, h8, h9]; exact h⟩

theorem Kept.judgeWindow (K : Kept q w R P) (hp : Keeps P pub) (t : Tube) (h : P S U b) : P S U (b.judgeWindow pub t) := by
  have h1 := K.holdLevel t (fun h => { h with window := (b.boat t).windowOpen }) rfl rfl (fun _ o => o) h
  exact kept_ite (fun _ => h) fun _ => kept_ite (fun _ => h1) fun _ => hp t (K.reexamineHolds t h1)

theorem Kept.judgeSeal (K : Kept q w R P) (hp : Keeps P pub) (t : Tube) (h : P S U b) : P S U (b.judgeSeal pub t) := by
  have h1 := K.report (some t) (if (b.boat t).sealStands then .sealMade else .sealOpened)
    (positionDetail (b.boat t).position) (some (flagDetail (b.boat t).sensor)) none 0 h
  exact kept_ite (fun _ => h) fun _ =>
    kept_ite (fun _ => K.gate t (fun g => { g with sealed := true }) (fun h => h) h1) fun _ => K.sealOpened hp t h1

theorem Kept.judgeMotion (K : Kept q w R P) (hp : Keeps P pub) (t : Tube) (h : P S U b) : P S U (b.judgeMotion pub t) := by
  have h1 := K.boat t (fun x => { x with motion := (b.boat t).paddle = .fault || (b.boat t).unlocWaiting })
    (.plain rfl rfl rfl rfl rfl rfl rfl rfl rfl) h
  exact kept_ite (fun _ => h) fun _ =>
    kept_ite (fun _ => K.raise hp t .motion 5 (by simp [heldLevel]) h1) fun _ => K.clear t .motion h1

/-- Discarding the order keeps a Boat Drive on its rail. -/
theorem BoatStep.discard (x : Boat) (m b : Bool) :
    BoatStep q x { x with order := none, unlocWaiting := m, blocked := b } := by
  refine ⟨rfl, rfl, rfl, rfl, fun _ => rfl, fun _ => id, fun _ h => ?_⟩
  unfold Boat.onRail Boat.locating at *
  split at h <;> simp_all

theorem Kept.discardOrder (K : Kept q w R P) (hp : Keeps P pub) (t : Tube) (h : P S U b) : P S U (b.discardOrder pub t) :=
  K.judgeMotion hp t (K.boat t _ (BoatStep.discard _ _ _) h)

theorem Kept.finishAtRest (K : Kept q w R P) (t : Tube) (o : MoveOrder) (h : P S U b) : P S U (b.finishAtRest t o) :=
  K.report _ _ _ _ _ _ (K.boat t _
    { BoatStep.discard (b.boat t) false false with
      onRail := fun hq h => (BoatStep.discard (b.boat t) false false).onRail hq h } h)

theorem BoatStep.setOut {x : Boat} {o : MoveOrder} {r : Rail} {p free speed : Nat} {band : Fin 16} (ho : x.order = some o)
    (hr : x.rail = some r) (hp : x.position = some p) (hl : x.locate = none) :
    BoatStep q x (x.setOut o p free speed band) := by
  refine ⟨rfl, rfl, rfl, rfl, fun _ => rfl, fun _ => id, fun _ h => ?_⟩
  unfold Boat.onRail Boat.locating Boat.setOut at *
  simp only [hr] at *
  obtain ⟨h1, h2, _, _, _, _, _⟩ := h
  refine ⟨h1, h2, by simp, by simp [hl], by simp, by simp, fun _ _ => ⟨_, p, rfl, hp, h2 o ho, ?_⟩⟩
  dsimp only
  split <;> simp_all <;> omega

theorem Kept.startOrder (K : Kept q w R P) (hp : Keeps P pub) (t : Tube) (h : P S U b) : P S U (b.startOrder pub t) := by
  unfold Bank.startOrder
  dsimp only
  split
  · rename_i o r ho hr
    refine kept_ite (fun _ => h) fun hm => kept_ite (fun _ => K.finishAtRest t o h) fun _ => kept_ite (fun _ => h) fun _ => ?_
    split
    · rename_i p _ hpos
      refine kept_ite (fun _ => K.boat t _ (.plain rfl rfl rfl rfl rfl rfl rfl rfl rfl) h) fun _ => ?_
      refine K.judgeSeal hp t (K.judgeWindow hp t (K.boat t _ (BoatStep.setOut ho hr hpos ?_) h))
      cases hl : (b.boat t).locate <;> simp_all
    · exact kept_ite (fun _ => K.judgeMotion hp t (K.boat t (fun x => { x with unlocWaiting := true })
        (.plain rfl rfl rfl rfl rfl rfl rfl rfl rfl) h)) fun _ => h
  · exact h

theorem Kept.comeToRest (K : Kept q w R P) (hp : Keeps P pub) (t : Tube) (bl : Bool)
    (hx : q → (b.boat t).onRail → (b.boat t).position.isSome ∧ (b.boat t).locate = none) (h : P S U b) :
    P S U (b.comeToRest pub t bl) := by
  have h1 := K.boat t (fun x =>
    { x with
      paddle := .stopped
      travel := none
      stopping := none
      speed := 0
      order := if ((b.boat t).finishedBy (b.boat t).position).isSome && !(b.boat t).stopping.isSome then none else x.order
      blocked := bl && !(b.boat t).stopping.isSome && ((b.boat t).finishedBy (b.boat t).position).isNone
      motionDone := x.motionDone || ((b.boat t).finishedBy (b.boat t).position).any MoveOrder.ofCurrentStep })
    ⟨rfl, rfl, rfl, rfl, fun _ => rfl, fun _ => id, fun _ h => by
      obtain ⟨e1, e2⟩ := hx ‹_› h
      unfold Boat.onRail Boat.locating at *
      split at h
      · simp_all
      · rename_i r hr
        simp only [hr]
        refine ⟨h.1, fun o ho => ?_, by simp, by simp, fun _ => e1, by simp [e2], by simp [PaddleState.inMotion]⟩
        split at ho
        · cases ho
        · exact h.2.1 o ho⟩ h
  have h2 := K.judgeWindow hp t h1
  unfold Bank.comeToRest
  refine kept_ite (fun _ => K.startOrder hp t (K.judgeSeal hp t ?_)) fun _ => K.judgeSeal hp t ?_
  all_goals
    split
    · exact K.report _ _ _ _ _ _ h2
    · exact h2

theorem Kept.enterFault (K : Kept q w R P) (hp : Keeps P pub) (t : Tube) (c e k)
    (hx : q → (b.boat t).onRail → (b.boat t).rail.isSome) (h : P S U b) : P S U (b.enterFault pub t c e k) := by
  have h1 := K.boat t (fun x =>
    { x with paddle := .fault, travel := none, stopping := none, locate := none, speed := 0, blocked := false })
    ⟨rfl, rfl, rfl, rfl, fun _ => rfl, fun _ _ => rfl, fun _ h => by
      have e := hx ‹_› h
      unfold Boat.onRail Boat.locating at *
      split at h
      · simp_all
      · rename_i r hr
        simp only [hr]
        exact ⟨h.1, h.2.1, by simp, by simp, by simp, by simp, by simp [PaddleState.inMotion]⟩⟩ h
  exact K.judgeMotion hp t (K.report _ _ _ _ _ _ (K.judgeSeal hp t (K.judgeWindow hp t h1)))

theorem Kept.startLocate (K : Kept q w R P) (hp : Keeps P pub) (t : Tube) (hx : (b.boat t).paddle.inMotion = false)
    (h : P S U b) : P S U (b.startLocate pub t) := by
  unfold Bank.startLocate
  dsimp only
  split
  · rename_i asked r hl hr
    refine kept_ite (fun _ => K.boat t _ (.plain rfl rfl rfl rfl rfl rfl rfl rfl rfl) h) fun _ => ?_
    refine K.judgeSeal hp t (K.judgeWindow hp t (K.boat t _ ⟨rfl, rfl, rfl, rfl, fun _ => rfl, fun _ => id, fun _ h => ?_⟩ h))
    unfold Boat.onRail Boat.locating at *
    simp only [hr] at *
    obtain ⟨h1, h2, h3, h4, h5, h6, h7⟩ := h
    have : (b.boat t).paddle = .unlocated := by
      rcases h6 (by simp [hl]) with h | h
      · exact h
      · simp [PaddleState.inMotion, h] at hx
    refine ⟨h1, h2, by simp, fun _ => h3 this, by simp, by simp, by simp [hl]⟩
  · exact h

theorem Kept.newControlReading (K : Kept q w R P) (hp : Keeps P pub) (t : Tube) (h : P S U b) :
    P S U (b.newControlReading pub t) := by
  unfold Bank.newControlReading
  refine kept_ite (fun _ => h) fun hn => kept_ite (fun _ => K.startLocate hp t ?_ h) fun _ => K.startOrder hp t h
  cases hm : (b.boat t).paddle.inMotion <;> simp_all

theorem BoatStep.leaveBehind (x : Boat) (hx : x.travelling = true) : BoatStep q x x.leaveBehind := by
  have key : ∀ s, BoatStep q x { x with paddle := .stopping, stopping := s } := fun s =>
    ⟨rfl, rfl, rfl, rfl, fun _ => rfl, fun _ => id, fun _ h => by
      have hl : x.locate = none := by
        unfold Boat.travelling at hx; cases hl : x.locate <;> simp_all
      have hm : x.paddle.inMotion = true := by unfold Boat.travelling at hx; simp_all
      unfold Boat.onRail Boat.locating at *
      split at h
      · simp_all [PaddleState.inMotion]
      · rename_i r hr
        simp only [hr]
        exact ⟨h.1, h.2.1, by simp, by simp [hl], by simp, by simp [hl], fun _ _ => h.2.2.2.2.2.2 hm (by simp [hl])⟩⟩
  unfold Boat.leaveBehind
  split
  · exact key _
  · exact key x.stopping

theorem Kept.leaveBehind (K : Kept q w R P) (t : Tube) (h : P S U b) :
    P S U (b.modBoat t fun x => if (b.boat t).travelling then x.leaveBehind else x) := by
  refine K.boat t _ ?_ h
  by_cases hx : (b.boat t).travelling = true
  · simp only [hx, if_true]; exact .leaveBehind _ hx
  · simp only [hx]; exact .plain rfl rfl rfl rfl rfl rfl rfl rfl rfl

theorem BoatStep.order {x : Boat} {r : Rail} (hr : x.rail = some r) (o : MoveOrder) (m : Bool) (ho : o.target ≤ r.inPos) :
    BoatStep q x { x with order := some o, motionDone := m } := by
  refine ⟨rfl, rfl, rfl, rfl, fun _ => rfl, fun _ => id, fun _ h => ?_⟩
  unfold Boat.onRail Boat.locating at *
  simp only [hr] at *
  exact ⟨h.1, fun o' e => by simp at e; rw [← e]; exact ho, h.2.2⟩

theorem Kept.takeMotionPart (K : Kept q w R P) (hp : Keeps P pub) (t : Tube) (i : Slot) (q : MotionPart) (h : P S U b) :
    P S U (b.takeMotionPart pub t i q) := by
  unfold Bank.takeMotionPart
  split
  · exact h
  · rename_i r hr
    have h1 := K.discardOrder hp t (K.leaveBehind t h)
    refine K.startOrder hp t (K.boat t _ (BoatStep.order (r := r) ?_ _ _ (Nat.min_le_right _ _)) h1)
    rw [K.rails h1, ← K.rails h, hr]

theorem Kept.resumeMove (K : Kept q w R P) (hp : Keeps P pub) (t : Tube) (hm : (b.boat t).paddle.inMotion = true)
    (h : P S U b) : P S U (b.resumeMove pub t) := by
  unfold Bank.resumeMove
  dsimp only
  split
  · rename_i r v p hr hv hpos
    have h1 := K.boat t (fun x =>
      { x with paddle := .moving, speed := b.commandedSpeed t r p v.asked, band := (b.speedBand t).val
               travel := some { v with freeSpeed := b.freeSpeed t v.asked } })
      ⟨rfl, rfl, rfl, rfl, fun _ => rfl, fun _ => id, fun _ h => by
        unfold Boat.onRail Boat.locating at *
        simp only [hr] at *
        obtain ⟨h1, h2, h3, h4, h5, h6, h7⟩ := h
        have hl : (b.boat t).locate = none := by
          cases hl : (b.boat t).locate with
          | none => rfl
          | some x =>
            rcases h6 (by simp [hl]) with e | e
            · simp [PaddleState.inMotion, e] at hm
            · have := h4 (by simp [e, hl]); simp_all
        refine ⟨h1, h2, by simp, by simp [hl], by simp, by simp, fun _ _ => ⟨_, p, rfl, hpos, ?_⟩⟩
        obtain ⟨v', p', e1, e2, e3⟩ := h7 hm (by simp [hl])
        rw [hv] at e1; rw [hpos] at e2; cases e1; cases e2; exact e3⟩ h
    refine kept_ite (fun _ => K.comeToRest hp t true (fun _ h => ?_) h1) fun _ => h1
    refine ⟨by simp [hpos], ?_⟩
    unfold Boat.onRail Boat.locating at h
    simp only [Bank.boat_modBoat_self, hr] at h
    have h4 := h.2.2.2.1
    simp only [hpos] at h4
    cases hl : (b.boat t).locate <;> simp_all
  · exact h

theorem Kept.stopAtOnce (K : Kept q w R P) (hp : Keeps P pub) (t : Tube) (h : P S U b) : P S U (b.stopAtOnce pub t) := by
  refine K.discardOrder hp t (K.judgeSeal hp t (K.judgeWindow hp t (K.boat t _ ⟨rfl, rfl, rfl, rfl, fun _ => rfl, fun _ _ => rfl,
    fun _ h => ?_⟩ h)))
  unfold Boat.onRail at *
  split at h
  · rename_i hr
    obtain ⟨h1, h2, h3, h4⟩ := h
    simp [hr, h1, h2, h3, h4, Boat.locating, PaddleState.inMotion]
  · rename_i r hr
    simp only [hr]
    obtain ⟨h1, h2, h3, h4, h5, h6, h7⟩ := h
    refine ⟨h1, h2, ?_, by simp [Boat.locating], ?_, by simp, ?_⟩
    · cases hl : (b.boat t).locating with
      | true => intro _; exact h4 hl
      | false =>
        simp only [Bool.false_eq_true, if_false]
        split
        · simp
        · exact h3
    · cases hl : (b.boat t).locating with
      | true => simp
      | false =>
        simp only [Bool.false_eq_true, if_false]
        split
        · rename_i hm
          intro _
          obtain ⟨_, p, _, e, _⟩ := h7 hm hl
          simp [e]
        · exact h5
    · cases hl : (b.boat t).locating with
      | true => simp [PaddleState.inMotion]
      | false =>
        simp only [Bool.false_eq_true, if_false]
        split
        · simp [PaddleState.inMotion]
        · rename_i hm; exact fun e => absurd e hm

theorem BoatStep.stopping {x : Boat} (h1 : x.paddle = .moving) (h2 : x.locate = none) :
    BoatStep q x { x with paddle := .stopping } := by
  refine ⟨rfl, rfl, rfl, rfl, fun _ => rfl, fun _ => id, fun _ h => ?_⟩
  unfold Boat.onRail Boat.locating at *
  split at h
  · simp_all
  · rename_i r hr
    simp only [hr]
    exact ⟨h.1, h.2.1, by simp, by simp, by simp, by simp [h2],
      fun _ _ => h.2.2.2.2.2.2 (by simp [PaddleState.inMotion, h1]) (by simp [h2])⟩

theorem Kept.boatRespond (K : Kept q w R P) (hp : Keeps P pub) (t : Tube) (L : Nat) (h : P S U b) :
    P S U (b.boatRespond pub t L) := by
  refine kept_ite (fun _ => K.stopAtOnce hp t h) fun _ => kept_ite (fun _ => kept_ite (fun hm => ?_) fun _ => h) fun _ =>
    kept_ite (fun hs => kept_ite (fun _ => h) fun _ => K.resumeMove hp t (by simp [hs, PaddleState.inMotion]) h) fun _ =>
      K.startOrder hp t h
  exact K.boat t _ (.stopping hm.1 (by cases hl : (b.boat t).locate <;> simp_all)) h

theorem Kept.boatRunEnd (K : Kept q w R P) (hp : Keeps P pub) (t : Tube) (h : P S U b) : P S U (b.boatRunEnd pub t) :=
  kept_ite (fun _ => h) fun _ => K.discardOrder hp t (K.leaveBehind t h)

theorem Kept.orphanOrder (K : Kept q w R P) (t : Tube) (h : P S U b) : P S U (b.orphanOrder t) := by
  refine K.boat t _ ⟨rfl, rfl, rfl, rfl, fun _ => rfl, fun _ => id, fun _ h => ?_⟩ h
  unfold Boat.onRail Boat.locating at *
  split at h
  · rename_i hr; simp only [hr]; exact ⟨h.1, by simp [h.2.1], h.2.2⟩
  · rename_i r hr
    simp only [hr]
    refine ⟨h.1, fun o e => ?_, h.2.2⟩
    simp only [Option.map_eq_some_iff] at e
    obtain ⟨o', e1, e2⟩ := e
    rw [← e2]; exact h.2.1 o' e1

theorem Kept.boatAbort (K : Kept q w R P) (hp : Keeps P pub) (t : Tube) (h : P S U b) : P S U (b.boatAbort pub t) := by
  have h1 := K.orphanOrder t h
  exact kept_ite (fun _ => K.discardOrder hp t h1) fun _ => h1

theorem Kept.boatStartRun (K : Kept q w R P) (hp : Keeps P pub) (t : Tube) (h : P S U b) : P S U (b.boatStartRun pub t) := by
  unfold Bank.boatStartRun
  split
  · exact kept_ite (fun _ => K.discardOrder hp t h) fun _ => h
  · exact h

/-! ## The Supply Budget and a step's phase -/

theorem Kept.firstActive (K : Kept q w R P) (hp : Keeps P pub) (t : Tube) (i : Slot) (r : StepRecord) (h : P S U b) :
    P S U (b.firstActive pub t i r) := by
  refine K.report _ _ _ _ _ _ (K.gate t _ (fun h => h) (K.gas t (fun g => { g with stepVolume := 0 }) rfl
    (fun _ => rfl) ?_))
  have h1 : P S U ((match r.thermal with | some q => b.startRamp t (stepRamp q) | none => b).resetStability t) := by
    refine K.ramp t _ ?_
    split
    · exact K.startRamp t _ h
    · exact h
  split
  · exact K.takeMotionPart hp t i _ h1
  · exact h1

theorem Kept.becomeActive (K : Kept q w R P) (hp : Keeps P pub) (t : Tube) (h : P S U b) : P S U (b.becomeActive pub t) := by
  have h1 := K.run t (fun x => { x with phase := .active, activated := true }) rfl (fun h => h) h
  unfold Bank.becomeActive
  dsimp only
  split
  · exact K.firstActive hp t _ _ h1
  · exact K.report _ _ _ _ _ _ h1

theorem Kept.grant (K : Kept q w R P) (hp : Keeps P pub) (t : Tube) (k f v q) (h : P S U b) :
    P S U (b.grant pub t k f v q) := by
  have h1 := K.formEffective' hp t (K.setRequested t f (K.report (some t) .gasGranted (slotDetail (b.run t).step)
    (some k.code) (some (flagDetail q)) 0 (K.supply (fun s => (s.setAlloc t v).leave t) rfl h)))
  exact kept_ite (fun _ => K.becomeActive hp t h1) fun _ => h1

theorem Kept.waitForGas (K : Kept q w R P) (t : Tube) (k f v) (h : P S U b) : P S U (b.waitForGas t k f v) := by
  refine K.run t _ ?_ ?_ (K.report _ _ _ _ _ _ (K.supply _ ?_ h))
  · split <;> rfl
  · split <;> exact id
  · unfold Supply.enqueue; split <;> rfl

theorem Kept.tryWaiter (K : Kept q w R P) (hp : Keeps P pub) (t : Tube) (h : P S U b) : P S U (b.tryWaiter pub t).1 := by
  unfold Bank.tryWaiter
  split
  · exact h
  · split
    · exact K.grant hp t _ _ _ _ h
    · exact h

theorem Kept.waiterPass (K : Kept q w R P) (hp : Keeps P pub) (l : List Tube) (h : P S U b) :
    P S U (Bank.waiterPass pub l b).1 := by
  induction l generalizing b with
  | nil => exact h
  | cons t l ih => exact ih (K.tryWaiter hp t h)

theorem Kept.passes (K : Kept q w R P) (hp : Keeps P pub) (n : Nat) (h : P S U b) : P S U (b.passes pub n) := by
  induction n generalizing b with
  | zero => exact h
  | succ n ih =>
    have h1 := K.waiterPass hp (b.supply.waiters.map (·.tube)) h
    exact kept_ite (fun _ => ih h1) fun _ => h1

theorem Kept.reexamine (K : Kept q w R P) (hp : Keeps P pub) (h : P S U b) : P S U (b.reexamine pub) := K.passes hp _ h

theorem Kept.callReexamination (K : Kept q w R P) (h : P S U b) : P S U (b.modSupply Supply.callReexamination) :=
  K.supply _ rfl h

theorem Kept.settle (K : Kept q w R P) (hp : Keeps P pub) (h : P S U b) : P S U (b.settle pub) :=
  kept_ite (fun _ => K.supply _ rfl (K.reexamine hp h)) fun _ => h

theorem Kept.requestGas (K : Kept q w R P) (hp : Keeps P pub) (t : Tube) (k f) (h : P S U b) :
    P S U (b.requestGas pub t k f) := by
  have h1 := K.grant hp t k f (b.requestVector t f) false h
  unfold Bank.requestGas
  dsimp only
  exact kept_ite (fun _ => kept_ite (fun _ => K.callReexamination h1) fun _ => h1) fun _ => K.waitForGas t k f _ h

theorem Kept.setIdlePurge (K : Kept q w R P) (t : Tube) (h : P S U b) : P S U (b.setIdlePurge t) :=
  K.setRequested t _ (K.supply _ rfl h)

theorem Kept.cancelRequest (K : Kept q w R P) (t : Tube) (h : P S U b) : P S U (b.cancelRequest t) := K.supply _ rfl h

theorem Kept.idlePurge (K : Kept q w R P) (hp : Keeps P pub) (t : Tube) (h : P S U b) : P S U (b.idlePurge pub t) :=
  K.callReexamination (K.formEffective' hp t (K.setIdlePurge t (K.cancelRequest t h)))

theorem Kept.gasRespond (K : Kept q w R P) (hp : Keeps P pub) (t : Tube) (o L : Nat) (h : P S U b) :
    P S U (b.gasRespond pub t o L) := by
  have h1 := K.formEffective' hp t h
  exact kept_ite (fun _ => K.idlePurge hp t h) fun _ => kept_ite (fun _ => K.requestGas hp t _ _ h1) fun _ => h1

/-! ## Publication -/

theorem Kept.clearStepTime (K : Kept q w R P) (t : Tube) (h : P S U b) : P S U (b.clearStepTime t) :=
  kept_ite (fun _ => K.clear t .stepTime (K.run t (fun x => { x with stepTime := false }) rfl id h)) fun _ => h

theorem Kept.clearHostAbort (K : Kept q w R P) (t : Tube) (h : P S U b) : P S U (b.clearHostAbort t) :=
  kept_ite (fun _ => K.clear t .hostAbort (K.run t (fun x => { x with hostAbort := false }) rfl id h)) fun _ => h

theorem Kept.endRunSafed (K : Kept q w R P) (t : Tube) (h : P S U b) : P S U (b.endRunSafed t) :=
  kept_ite (fun _ => K.run t (fun x => { x with outcome := .safed, phase := .none, abortPath := false }) rfl id
    (K.orphanOrder t (K.clearHostAbort t (K.clearStepTime t (K.cancelRequest t h))))) fun _ => h

theorem Kept.enterSafe (K : Kept q w R P) (t : Tube) (h : P S U b) : P S U (b.enterSafe t) :=
  K.startSafeRamp t (K.gate t (fun g => { g with target := none, purgeDone := false }) id
    (K.report _ _ _ _ _ _ (K.run t (fun x => { x with state := .safe }) rfl (fun h => nomatch h) (K.endRunSafed t h))))

theorem Kept.whileAt (f : Bank → Bank) (t : Tube) (L : Nat) (hf : ∀ {b}, P S U b → P S U (f b)) (h : P S U b) :
    P S U (b.whileAt t L f) := kept_ite (fun _ => hf h) fun _ => h

theorem Kept.publishWith (K : Kept q w R P) (hp : Keeps P pub) : Keeps P fun t b => b.publishWith pub t := by
  intro S U b t h
  have h1 := K.published t h
  refine kept_ite (fun e => ?_) fun _ => ?_
  · have : (b.modHold t fun h => { h with published := (b.hold t).level }) = b := by
      have e' : (b.tube t).hold.level = (b.tube t).hold.published := e
      have e2 : ({ b.tube t with hold := { (b.tube t).hold with published := (b.tube t).hold.level } } : TubeState)
          = b.tubes[t] := by rw [e']; rfl
      unfold Bank.modHold Bank.modTube Bank.hold
      simp only
      have e3 : b.tubes.set t.val b.tubes[t] t.isLt = b.tubes := by simp
      rw [e2, e3]
    rwa [this] at h1
  · refine Kept.whileAt _ _ _ (K.boatRespond hp t _) (Kept.whileAt _ _ _ (fun h => ?_)
      (Kept.whileAt _ _ _ (K.gasRespond hp t _ _) ?_))
    · exact kept_ite (fun _ => K.closeGate hp t _ _ _ h) fun _ => h
    · exact kept_ite (fun _ => K.enterSafe t h1) fun _ => h1

/-- Publication keeps what the primitive updates keep. -/
theorem Kept.publishDown (K : Kept q w R P) (n : Nat) : Keeps P (Sys2Proof.Machine.publishDown n) := by
  induction n with
  | zero => exact fun t h => K.published t h
  | succ n ih => exact K.publishWith ih

theorem Kept.publish (K : Kept q w R P) : Keeps P Sys2Proof.Machine.publish := K.publishDown _

/-! ## The Run Engine -/

theorem Kept.enterStep (K : Kept q w R P) (hp : Keeps P pub) (t : Tube) (i : Slot) (h : P S U b) :
    P S U (b.enterStep pub t i) := by
  have h1 := K.report (some t) .stepEntered (slotDetail (some i))
    (some (((b.modRun t fun x => x.enter i).clearStepTime t).run t |>.counter i))
    (some (flagDetail (((b.modRun t fun x => x.enter i).clearStepTime t).run t).abortPath)) 0
    (K.clearStepTime t (K.run t (fun x => x.enter i) rfl id h))
  unfold Bank.enterStep
  dsimp only
  split
  · exact K.becomeActive hp t h1
  · exact K.requestGas hp t _ _ h1

theorem Kept.endRun (K : Kept q w R P) (hp : Keeps P pub) (t : Tube) (h : P S U b) : P S U (b.endRun pub t) :=
  K.boatRunEnd hp t (K.idlePurge hp t (K.gate t (fun g => { g with target := none, purgeDone := false }) id
    (K.stopRamp t (K.run t (fun x => { x with state := .idle }) rfl (fun h => nomatch h) (K.report _ _ _ _ _ _
      (K.run t (fun x => { x with outcome := (b.run t).endOutcome, phase := .none, abortPath := false }) rfl id h))))))

theorem RunEngine.records_setCounter (x : RunEngine) (i : Slot) (n : Nat) : (x.setCounter i n).records = x.records := by
  unfold RunEngine.records RunEngine.setCounter
  ext j hj a
  simp only [Vector.getElem_map, Vector.getElem_set]
  split
  · rename_i e
    subst e
    simp [Function.comp_def]
  · rfl

theorem RunEngine.leave_kept (x : RunEngine) (i : Slot) (c : SlotContent) :
    (x.leave i c).1.records = x.records ∧ (x.leave i c).1.state = x.state := by
  unfold RunEngine.leave
  split
  · exact ⟨rfl, rfl⟩
  · split
    · exact ⟨RunEngine.records_setCounter _ _ _, rfl⟩
    · exact ⟨RunEngine.records_setCounter _ _ _, rfl⟩

theorem Kept.leaveStep (K : Kept q w R P) (hp : Keeps P pub) (t : Tube) (i : Slot) (c : SlotContent) (h : P S U b) :
    P S U (b.leaveStep pub t i c) := by
  have h1 := K.orphanOrder t (K.report (some t) .stepDone (slotDetail (some i)) (some ((b.clearStepTime t).run t).stepClock)
    none 0 (K.clearStepTime t h))
  have onward : ∀ y, P S U y → P S U (
      let went := (y.run t).leave i c
      let y := y.modRun t fun _ => went.1
      match went.2 with
      | none => y.endRun pub t
      | some j => y.enterStep pub t j) := by
    intro y hy
    have h2 := K.run t (fun _ => ((y.run t).leave i c).1) (RunEngine.leave_kept _ _ _).1
      (fun e => by rwa [(RunEngine.leave_kept _ _ _).2] at e) hy
    dsimp only
    split
    · exact K.endRun hp t h2
    · exact K.enterStep hp t _ h2
  exact onward _ h1

theorem Kept.runEngineExpiry (K : Kept q w R P) (hp : Keeps P pub) (t : Tube) (h : P S U b) :
    P S U (b.runEngineExpiry pub t) := by
  unfold Bank.runEngineExpiry
  split
  · exact h
  · rename_i n _
    refine kept_ite (fun _ => ?_) fun _ => h
    have h1 := K.run t (fun x => x.advance n) rfl id h
    unfold Bank.judgeStep
    split
    · exact h1
    · split
      · exact h1
      · refine kept_ite (fun _ => K.leaveStep hp t _ _ h1) fun _ => kept_ite (fun _ => ?_) fun _ => h1
        exact K.raise hp t .stepTime 4 (by simp [heldLevel]) (K.run t (fun x => { x with stepTime := true }) rfl id h1)

theorem RunEngine.records_start (x : RunEngine) (i : Slot) (a : Option Slot) : (x.start i a).records = x.records := by
  unfold RunEngine.records RunEngine.start
  ext j hj y
  simp [Function.comp_def]

theorem Kept.startRun (K : Kept q w R P) (hp : Keeps P pub) (t : Tube) (p : List Byte) (h : P S U b) :
    P S U (b.startRun pub t p).1 := by
  unfold Bank.startRun
  split
  · exact h
  · exact h
  · rename_i i _ _
    exact K.enterStep hp t i (K.boatStartRun hp t (K.run t _ (RunEngine.records_start _ _ _) (fun h => nomatch h) h))

theorem Kept.abortRun (K : Kept q w R P) (hp : Keeps P pub) (t : Tube) (p : List Byte) (h : P S U b) :
    P S U (b.abortRun pub t p).1 := by
  unfold Bank.abortRun
  split
  · exact h
  · have h1 : P S U (b.abandonStep pub t) := by
      refine K.boatAbort hp t (K.clearStepTime t ?_)
      have h1 := K.cancelRequest t (K.run t (fun x => { x with phase := .none }) rfl id h)
      exact kept_ite (fun _ => K.callReexamination h1) fun _ => h1
    have h2 := hp t (K.emptyHolds t .abort h1)
    change P S U (Bank.afterAbort pub t _)
    unfold Bank.afterAbort
    split
    · exact K.enterStep hp t _ (K.report _ _ _ _ _ _ (K.run t (fun x => { x with abortPath := true }) rfl id h2))
    · exact K.raise hp t .hostAbort 7 (by simp [heldLevel]) (K.run t (fun x => { x with hostAbort := true }) rfl id h2)

theorem Kept.toIdle (K : Kept q w R P) (t : Tube) (h : P S U b) : P S U (b.modRun t fun x => { x with state := .idle }) :=
  K.run t _ rfl (fun h => by cases h) h

theorem Kept.clearTube (K : Kept q w R P) (hp : Keeps P pub) (t : Tube) (h : P S U b) :
    P S (withTube U t) (b.clearTube pub t) := by
  have h1 := K.holdLevel t (fun h => { h with level7 := [] }) rfl rfl (fun _ o => HoldUnit.ordered_level7 o)
    (K.emptyHolds t .reset h)
  have h2 := K.loops t (fun v => v.map ZoneLoop.resetTube) (fun z h => by simpa [ZoneLoop.resetTube] using h) h1
  have h3 : P S (withTube U t) (Bank.resetStability t _) := K.ramp t _ (K.stopRamp t h2)
  exact K.toIdle t (K.idlePurge hp t (K.gate t (fun g => { g with target := none, purgeDone := false }) id h3))

theorem Kept.resetTube (K : Kept q w R P) (hp : Keeps P pub) (t : Tube) (p : List Byte) (h : P S U b) :
    P S U (b.resetTube pub t p).1 := by
  unfold Bank.resetTube
  split
  · exact h
  · split
    · exact h
    · exact hp t (K.presentAgain t (K.clearTube hp t h))

theorem Kept.holdRequest (K : Kept q w R P) (hp : Keeps P pub) (t : Tube) (p : List Byte) (h : P S U b) :
    P S U (b.holdRequest pub t p).1 := by
  unfold Bank.holdRequest
  dsimp only
  split
  · exact h
  · rename_i hL
    have h1 := K.decideRaise t .host (u8 p 1) (fun _ => .inl ⟨by omega, by omega⟩) h
    exact kept_ite (fun _ => hp t h1.1) h1.2

theorem Kept.releasePending (K : Kept q w R P) (t : Tube) (L : Nat) (h : P S U b) : P S U (b.releasePending t L).1 := by
  unfold Bank.releasePending
  split
  · exact h
  · split
    · exact K.reportWithdrawn t _ _ (K.holdLevel t _ rfl rfl (fun _ o => HoldUnit.ordered_filter o _) h)
    · exact h

theorem Kept.releaseRequest (K : Kept q w R P) (hp : Keeps P pub) (t : Tube) (p : List Byte) (h : P S U b) :
    P S U (b.releaseRequest pub t p).1 := by
  unfold Bank.releaseRequest Bank.releaseTop
  dsimp only
  split
  · exact h
  · split
    · exact K.releasePending t _ h
    · split
      · split
        · exact h
        · split
          · exact h
          · exact K.popHold hp t _ h
      · exact K.releasePending t _ h

theorem Kept.setIdleTemperature (K : Kept q w R P) (t : Tube) (p : List Byte) (h : P S U b) :
    P S U (b.setIdleTemperature t p).1 := by
  unfold Bank.setIdleTemperature
  split
  · exact h
  · split
    · exact h
    · exact K.startRamp t _ h

/-! ## Thermocouples, configuration and the remaining requests -/

theorem Kept.raiseTc (K : Kept q w R P) (hp : Keeps P pub) (t : Tube) (h : P S U b) : P S U (b.raiseTc pub t) :=
  K.raise hp t .tc 5 (by simp [heldLevel]) (K.tc _ h)

theorem Kept.judgeTcConfigured (K : Kept q w R P) (hp : Keeps P pub) (t : Tube) (h : P S U b) :
    P S U (b.judgeTcConfigured pub t) := kept_ite (fun _ => K.raiseTc hp t h) fun _ => h

theorem Kept.completeConfiguration (K : Kept q w R P) (hp : Keeps P pub) (t : Tube) (h : P S U b) :
    P S U (b.completeConfiguration pub t) :=
  kept_ite (fun _ => K.judgeTcConfigured hp t (kept_ite (fun _ => K.enterSafe t h) fun _ =>
    K.idlePurge hp t (K.run t (fun x => { x with state := .idle }) rfl (fun h => nomatch h) h))) fun _ => h

theorem Kept.handControl (K : Kept q w R P) (hp : Keeps P pub) (t : Tube) (g r : Bool) (h : P S U b) :
    P S U (b.handControl pub t g r) :=
  K.newControlReading hp t (kept_ite (fun _ => h) fun _ => kept_ite (fun _ => K.raiseTc hp t h) fun _ =>
    kept_ite (fun _ => K.clear t .tc (K.tc _ h)) fun _ => h)

theorem Kept.judgeOvertemp (K : Kept q w R P) (hp : Keeps P pub) (t : Tube) (f : Vector ZoneLoop 3 → Vector ZoneLoop 3)
    (hf : ∀ z : Zone, (b.loops t)[z].delivered ≤ (b.loops t)[z].output →
      (f (b.loops t))[z].delivered ≤ (f (b.loops t))[z].output) (h : P S U b) : P S U (b.judgeOvertemp pub t f) :=
  kept_ite (fun _ => K.raise hp t .overtemp 7 (by simp [heldLevel]) (K.loops t f hf h)) fun _ =>
    kept_ite (fun _ => K.clear t .overtemp (K.loops t f hf h)) fun _ => K.loops t f hf h

theorem ZoneLoop.judge_kept (l : ZoneLoop) (n : Int) (r : ChannelRecord) (x : Bool) (h : l.delivered ≤ l.output) :
    (l.judge n r x).delivered ≤ (l.judge n r x).output := by
  unfold ZoneLoop.judge
  dsimp only
  split
  · exact Nat.le_refl _
  · unfold ZoneLoop.judgeFlags; split <;> exact h

theorem Kept.handOvertemp (K : Kept q w R P) (hp : Keeps P pub) (t : Tube) (z : Zone) (r : Bool) (h : P S U b) :
    P S U (b.handOvertemp pub t z r) := by
  unfold Bank.handOvertemp
  split
  · exact h
  · refine K.judgeOvertemp hp t _ (fun z' h => ?_) h
    by_cases e : z = z'
    · subst e; simpa using ZoneLoop.judge_kept _ _ _ _ h
    · have : z.val ≠ z'.val := fun e' => e (Fin.ext e')
      simpa [this] using h

theorem Kept.applyZones (K : Kept q w R P) (hp : Keeps P pub) (t : Tube) (c : ZonesConfig) (h : P S U b) :
    P S U (b.applyZones pub t c) := by
  refine K.judgeOvertemp hp t _ (fun z h => ?_) (K.loops t _ (fun z h => ?_) h)
  · simpa using ZoneLoop.judge_kept _ _ _ _ h
  · simp only [Fin.getElem_fin, Vector.getElem_ofFn] at *
    unfold ZoneLoop.lowerTo
    split
    · exact Nat.min_le_right _ _
    · exact h

/-! ## A paddle that stays where it is -/

/-- The rails stand, the paddle of `t` has the position `p`, and no locate is under way. -/
def Placed (R : Tube → Option Rail) (t : Tube) (p : Option Nat) (_S _U : Tube → Prop) (b : Bank) : Prop :=
  (∀ u, (b.boat u).rail = R u) ∧ (b.boat t).position = p ∧ (b.boat t).locate = none

theorem placed_boat {t u : Tube} {p : Option Nat} {f : Boat → Boat} (hf : BoatStep True (b.boat u) (f (b.boat u)))
    (h : Placed R t p S U b) : Placed R t p S U (b.modBoat u f) := by
  obtain ⟨h1, h2, h3⟩ := h
  refine ⟨fun v => ?_, ?_, ?_⟩
  · rw [Bank.boat_modBoat]; split
    · subst_vars; rw [hf.rail]; exact h1 _
    · exact h1 v
  · rw [Bank.boat_modBoat]; split
    · subst_vars; rw [hf.position trivial]
    · exact h2
  · rw [Bank.boat_modBoat]; split
    · subst_vars; exact hf.locate trivial h3
    · exact h3

theorem kept_placed (R : Tube → Option Rail) (t : Tube) (p : Option Nat) : Kept True False R (Placed R t p) where
  rails h := h.1
  unformed _ h := h
  unpublished _ h := h
  report _ _ _ _ _ _ h := h
  supply _ _ h := h
  tc _ h := h
  run _ _ _ _ h := by simpa [Placed] using h
  ramp _ _ h := by simpa [Placed] using h
  loops _ _ _ h := by simpa [Placed] using h
  gas _ _ _ _ h := by simpa [Placed] using h
  drive _ h := by simpa [Placed] using h
  gate _ _ _ h := by simpa [Placed] using h
  gateClose _ _ h := by simpa [Placed] using h
  hold _ _ _ _ h := by simpa [Placed] using h
  holdLevel _ _ _ _ _ h := by simpa [Placed] using h
  published _ h := by simpa [Placed] using h
  boat _ _ hf h := placed_boat hf h

/-! ## Steps, marks and orders that place the paddle -/

/-- A property that the placing of a paddle keeps too. -/
structure KeptMoves (q w : Prop) (R : Tube → Option Rail) (P : (Tube → Prop) → (Tube → Prop) → Bank → Prop) : Prop extends Kept q w R P where
  place : ∀ {S U b} t (f : Boat → Boat), (f (b.boat t)).rail = (b.boat t).rail → (f (b.boat t)).table = (b.boat t).table →
    (f (b.boat t)).sensorRaw = (b.boat t).sensorRaw → (f (b.boat t)).sensor = (b.boat t).sensor →
    (q → (b.boat t).onRail → (f (b.boat t)).onRail) → P S U b → P S U (b.modBoat t f)

theorem Bank.freeSpeed_le (t : Tube) (n : Nat) : b.freeSpeed t n ≤ n := Nat.min_le_left _ _

theorem KeptMoves.stepMove (K : KeptMoves q w R P) (hp : Keeps P pub) (hq : ∀ R t p, Keeps (Placed R t p) pub) (t : Tube)
    {r : Rail} {v : Travel} {p : Nat} (hr : (b.boat t).rail = some r) (hv : (b.boat t).travel = some v)
    (hpos : (b.boat t).position = some p) (hm : (b.boat t).paddle.inMotion = true) (hl : (b.boat t).locating = false)
    (hn : q → (b.boat t).locate = none) (h : P S U b) : P S U (b.stepMove pub t r v p) := by
  have e1 : (((b.boat t).stepTo r v (v.stepFrom p)).crossing r v p (v.stepFrom p)).rail = some r := by
    unfold Boat.crossing; split <;> exact hr
  have e2 : (((b.boat t).stepTo r v (v.stepFrom p)).crossing r v p (v.stepFrom p)).position
      = some (v.stepFrom p) := by unfold Boat.crossing; split <;> rfl
  have e3 : q → (((b.boat t).stepTo r v (v.stepFrom p)).crossing r v p (v.stepFrom p)).locate = none :=
    fun hq => by unfold Boat.crossing; split <;> exact hn hq
  have h1 : P S U (b.modBoat t fun x => (x.stepTo r v (v.stepFrom p)).crossing r v p (v.stepFrom p)) := by
    refine K.place t _ (e1.trans hr.symm) (by unfold Boat.crossing; split <;> rfl)
      (by unfold Boat.crossing; split <;> rfl) (by unfold Boat.crossing; split <;> rfl) (fun _ h => ?_) h
    have key : ((b.boat t).stepTo r v (v.stepFrom p)).onRail := by
      unfold Boat.stepTo Boat.onRail Boat.locating at *
      simp only [hr] at *
      obtain ⟨c1, c2, c3, c4, c5, c6, c7⟩ := h
      obtain ⟨v', p', f1, f2, f3⟩ := c7 hm hl
      rw [hv] at f1; rw [hpos] at f2; cases f1; cases f2
      have hu : v.underway r (v.stepFrom p) := by
        unfold Travel.underway Travel.stepFrom at *
        refine ⟨f3.1, ?_⟩
        have := f3.2
        split at this <;> simp_all <;> omega
      refine ⟨fun q e => ?_, c2, fun e => ?_, fun e => ?_, by simp, c6, fun _ _ => ⟨v, _, hv, rfl, hu⟩⟩
      · cases e
        unfold Travel.underway at hu f3
        have g1 := hu.2; have g2 := c1 _ hpos
        have g3 := f3.2
        split at g1
        · omega
        · unfold Travel.stepFrom at *; simp_all; omega
      · simp [e, PaddleState.inMotion] at hm
      · rw [hl] at e; cases e
    unfold Boat.crossing
    split
    · exact key
    · exact key
  have h2 := K.judgeWindow hp t h1
  have q2 : q → Placed R t (some (v.stepFrom p)) S U (Bank.judgeWindow pub t
      (b.modBoat t fun x => (x.stepTo r v (v.stepFrom p)).crossing r v p (v.stepFrom p))) := fun hq' =>
    (kept_placed R t _).judgeWindow (hq R t _) t ⟨K.rails h1, by simpa using e2, by simpa using e3 hq'⟩
  unfold Bank.stepMove
  dsimp only
  split
  · refine K.enterFault hp t _ _ _ (fun hq' _ => ?_) h2
    rw [(q2 hq').1, ← K.rails h, hr]; rfl
  · exact kept_ite (fun _ => K.comeToRest hp t false
      (fun hq' _ => ⟨by rw [(q2 hq').2.1]; rfl, (q2 hq').2.2⟩) h2) fun _ => h2

/-- A paddle in motion that is not locating, and has a position, holds no LOCATE order. -/
theorem Boat.onRail.no_locate {x : Boat} (h : x.onRail) (hm : x.paddle.inMotion = true) (hl : x.locating = false) :
    x.locate = none := by
  unfold Boat.onRail Boat.locating at *
  cases hx : x.locate with
  | none => rfl
  | some n =>
    split at h
    · simp_all
    · rcases h.2.2.2.2.2.1 (by simp [hx]) with e | e
      · simp [e, PaddleState.inMotion] at hm
      · simp [e, hx] at hl

theorem KeptMoves.paddleStep (K : KeptMoves q w R P) (hp : Keeps P pub) (hq : ∀ R t p, Keeps (Placed R t p) pub) (t : Tube)
    (hon : q → (b.boat t).onRail) (h : P S U b) : P S U (b.paddleStep pub t) := by
  unfold Bank.paddleStep
  dsimp only
  split
  · rename_i hl
    have h1 := K.boat t (fun x => { x with locateTravel := x.locateTravel + 1 })
      (.plain rfl rfl rfl rfl rfl rfl rfl rfl rfl) h
    refine kept_ite (fun _ => K.enterFault hp t _ _ _ (fun hq' _ => ?_) h1) fun _ => h1
    have hon := hon hq'
    unfold Boat.onRail at hon
    unfold Boat.locating at hl
    simp only [Bank.boat_modBoat_self]
    split at hon
    · simp_all
    · simp_all
  · rename_i hl
    refine kept_ite (fun hm => ?_) fun _ => h
    split
    · rename_i r v p hr hv hpos
      exact K.stepMove hp hq t hr hv hpos hm (by simpa using hl) (fun hq' => (hon hq').no_locate hm (by simpa using hl)) h
    · exact h

theorem Travel.resync_underway {v : Travel} {r : Rail} (k : Nat) (h : v.target ≤ r.inPos) :
    v.underway r (v.resync r k) ∧ v.resync r k ≤ r.inPos := by
  unfold Travel.underway Travel.resync Travel.arrived
  dsimp only
  cases v.inward <;> simp only [Bool.false_eq_true, if_false, if_true, decide_eq_true_eq]
  · split <;> refine ⟨⟨h, ?_⟩, ?_⟩ <;> omega
  · split <;> refine ⟨⟨h, ?_⟩, ?_⟩ <;> omega

theorem KeptMoves.verifiedRead (K : KeptMoves q w R P) (hp : Keeps P pub) (t : Tube) {r : Rail} {v : Travel} {p k : Nat}
    (hr : (b.boat t).rail = some r) (hv : (b.boat t).travel = some v)
    (hm : (b.boat t).paddle.inMotion = true) (hl : (b.boat t).locating = false)
    (hn : q → (b.boat t).locate = none) (h : P S U b) : P S U (b.verifiedRead pub t r v p k) := by
  have key : ∀ s n w, (b.boat t).onRail → w.target = v.target → w.inward = v.inward →
      ({ b.boat t with position := some (v.resync r k), speed := s, band := n, travel := some w } : Boat).onRail := by
    intro s n w hon et ei
    unfold Boat.onRail Boat.locating at *
    simp only [hr] at *
    obtain ⟨c1, c2, c3, c4, c5, c6, c7⟩ := hon
    obtain ⟨v', p', f1, f2, f3⟩ := c7 hm hl
    rw [hv] at f1; cases f1
    have hu := Travel.resync_underway (r := r) k f3.1
    refine ⟨fun q e => ?_, c2, fun e => ?_, fun e => ?_, by simp, c6, fun _ _ => ⟨w, _, rfl, rfl, ?_⟩⟩
    · cases e; exact hu.2
    · simp [e, PaddleState.inMotion] at hm
    · rw [hl] at e; cases e
    · have := hu.1; unfold Travel.underway at *; rw [et, ei]; exact this
  have h1 := K.place t (fun x =>
    { x with
      position := some (v.resync r k), speed := b.commandedSpeed t r (v.resync r k) v.asked, band := (b.speedBand t).val
      travel := some { v with marksRead := k :: v.marksRead, freeSpeed := b.freeSpeed t v.asked } })
    rfl rfl rfl rfl (fun _ h => key _ _ _ h rfl rfl) h
  unfold Bank.verifiedRead
  exact kept_ite (fun _ => K.comeToRest hp t _ (fun hq _ => ⟨by simp, by simpa using hn hq⟩) h1) fun _ => K.judgeWindow hp t h1

theorem KeptMoves.endLocate (K : KeptMoves q w R P) (hp : Keeps P pub) (t : Tube) {k : Nat} {r : Rail}
    (hr : (b.boat t).rail = some r) (hk : markAt k ≤ r.inPos) (h : P S U b) : P S U (b.endLocate pub t k) := by
  have h1 := K.place t (fun x =>
    { x with
      paddle := .stopped, position := some (markAt k), locate := none, speed := 0, band := (b.speedBand t).val, blocked := false })
    rfl rfl rfl rfl (fun _ h => by
      unfold Boat.onRail Boat.locating at *
      simp only [hr] at *
      exact ⟨fun p e => by cases e; exact hk, h.2.1, by simp, by simp, by simp, by simp, by simp [PaddleState.inMotion]⟩) h
  have h2 := K.report (some t) .boatLocated (some (k : Int)) (some (markAt k : Int)) none 0 (K.judgeWindow hp t h1)
  have h3 := K.boat t (fun x => { x with unlocWaiting := false })
    (.plain rfl rfl rfl rfl rfl rfl rfl rfl rfl) (K.judgeSeal hp t h2)
  unfold Bank.endLocate
  dsimp only
  exact K.startOrder hp t (K.judgeMotion hp t h3)

theorem KeptMoves.goOnLocating (K : KeptMoves q w R P) (hp : Keeps P pub) (t : Tube) {r : Rail} (n : Nat)
    (hr : (b.boat t).rail = some r) (hl : (b.boat t).locating = true) (h : P S U b) :
    P S U (b.goOnLocating pub t r n) := by
  have h1 := K.boat t (fun x => { x with
      locateTravel := 0, speed := b.locateSpeed t r n, band := (b.speedBand t).val
      paddle := if b.locateSpeed t r n = 0 then .unlocated else .moving
      blocked := decide (b.locateSpeed t r n = 0) }) ⟨rfl, rfl, rfl, rfl, fun _ => rfl, fun _ => id, fun _ h => by
    unfold Boat.onRail Boat.locating at *
    simp only [hr] at *
    obtain ⟨c1, c2, c3, c4, c5, c6, c7⟩ := h
    have := c4 hl
    simp only [Bool.and_eq_true, decide_eq_true_eq] at hl
    refine ⟨c1, c2, fun _ => this, fun _ => this, ?_, ?_, ?_⟩
    · split <;> simp
    · intro _; split <;> simp
    · split
      · simp [PaddleState.inMotion]
      · simp [hl.2]⟩ h
  exact K.judgeWindow hp t h1

theorem KeptMoves.markRead (K : KeptMoves q w R P) (hp : Keeps P pub) (t : Tube) (k : Nat) (hon : q → (b.boat t).onRail)
    (h : P S U b) : P S U (b.markRead pub t k) := by
  unfold Bank.markRead
  dsimp only
  split
  · exact h
  · rename_i r hr
    refine kept_ite (fun hl => kept_ite (fun hk => K.endLocate hp t hr hk h) fun _ => K.goOnLocating hp t _ hr hl h)
      fun hl => kept_ite (fun hm => ?_) fun _ => h
    split
    · rename_i v p hv hpos
      have hl' : (b.boat t).locating = false := by simpa using hl
      exact kept_ite (fun _ => K.verifiedRead hp t hr hv hm hl' (fun hq => (hon hq).no_locate hm hl') h) fun _ =>
        K.enterFault hp t _ _ _ (fun _ _ => by rw [hr]; rfl) h
    · exact h

theorem KeptMoves.locateBoat (K : KeptMoves q w R P) (hp : Keeps P pub) (t : Tube) (p : List Byte) (h : P S U b) :
    P S U (b.locateBoat pub t p).1 := by
  unfold Bank.locateBoat
  split
  · exact h
  · split
    · exact h
    · rename_i hu
      have hu : (b.boat t).paddle = .unlocated := by simpa using hu
      refine K.startLocate hp t (by simp [Boat.takeLocate, hu, PaddleState.inMotion])
        (K.place t Boat.takeLocate rfl rfl rfl rfl (fun _ h => ?_) h)
      unfold Boat.onRail Boat.locating Boat.takeLocate at *
      split at h
      · rename_i hr; simp_all
      · rename_i r hr
        simp only [hr]
        refine ⟨h.1, fun o e => ?_, h.2.2.1, by simp [hu], by simp [hu], by simp [hu], by simp [hu, PaddleState.inMotion]⟩
        simp only [Option.filter_eq_some_iff] at e
        exact h.2.1 o e.1

theorem KeptMoves.moveBoat (K : KeptMoves q w R P) (hp : Keeps P pub) (t : Tube) (p : List Byte)
    (hon : q → (b.boat t).onRail) (h : P S U b) : P S U (b.moveBoat pub t p).1 := by
  unfold Bank.moveBoat
  split
  · exact h
  · rename_i hm
    have h1 := K.discardOrder hp t h
    refine K.startOrder hp t (K.place t _ rfl rfl rfl rfl (fun hq h => ?_) h1)
    have hon := hon hq
    have : ∃ r, (b.boat t).rail = some r := by
      unfold Boat.onRail at hon
      split at hon
      · unfold Bank.moveRefusal at hm
        simp only [hon.2.2.1, true_or, if_true] at hm
        split at hm
        · cases hm
        · split at hm <;> cases hm
      · exact ⟨_, ‹_›⟩
    obtain ⟨r, hr⟩ := this
    have hr' : ((b.discardOrder pub t).boat t).rail = some r := by
      rw [K.rails h1, ← K.rails ‹P S U b›, hr]
    unfold Boat.onRail Boat.locating at h ⊢
    simp only [hr'] at *
    refine ⟨h.1, fun o e => ?_, h.2.2⟩
    cases e
    simp only [Bank.inPos, hr]
    exact Nat.min_le_right _ _

theorem KeptMoves.clearMotionFault (K : KeptMoves q w R P) (hp : Keeps P pub) (t : Tube) (p : List Byte) (h : P S U b) :
    P S U (b.clearMotionFault pub t p).1 := by
  unfold Bank.clearMotionFault
  split
  · exact h
  · rename_i hf
    have hf : (b.boat t).paddle = .fault := by simpa using hf
    refine K.judgeMotion hp t (K.place t _ rfl rfl rfl rfl (fun _ h => ?_) h)
    unfold Boat.onRail Boat.locating at *
    split at h
    · rename_i hr; simp_all
    · rename_i r hr
      simp only [hr]
      exact ⟨by simp, h.2.1, by simp, by simp, by simp, by simp, by simp [PaddleState.inMotion]⟩

end Sys2Proof.Machine
end

