-- ==== Sys2Proof/Laws/Invariants.lean ====
section
/-! SUPPORT. The properties that the blocks' operations keep (`Kept`): the settings, the link, the power invariant, the
hold invariant, the gate invariant and the paddle invariant. -/

namespace Sys2Proof.Machine

/-- The rails of a bank stand as `R` says. -/
def OnRails (R : Tube → Option Rail) (b : Bank) : Prop := ∀ u, (b.boat u).rail = R u

/-- Every setting stands as in `b0`, and so do the link and the clock. -/
def Unset (b0 : Bank) (_S _U : Tube → Prop) (b : Bank) : Prop := b.link = b0.link ∧ ∀ k : Setting, k.same b0 b

/-- The Power Share stands as in `b0`, and every delivered output is within its output. -/
def Powered (b0 : Bank) (_S _U : Tube → Prop) (b : Bank) : Prop :=
  OnRails (fun t => (b0.boat t).rail) b ∧ b.powerLimit = b0.powerLimit ∧ (∀ t, b.share t = b0.share t)
    ∧ ∀ t, ∀ z : Zone, (b.loops t)[z].delivered ≤ (b.loops t)[z].output

/-- The gate invariant of every tube outside `S`. -/
def Gated (R : Tube → Option Rail) (S _U : Tube → Prop) (b : Bank) : Prop :=
  OnRails R b ∧ ∀ t, ¬S t → ∀ c : Channel, 0 < (b.gas t).channels[c].effective →
    (b.gas t).config.isSome ∧ (b.channelClass t c = .flammable → (b.gate t).isOpen = true)

/-- Every Hold Unit in order, and every hold level outside `U` published. -/
def Held (R : Tube → Option Rail) (_S U : Tube → Prop) (b : Bank) : Prop :=
  OnRails R b ∧ ∀ t, (b.hold t).ordered ∧ (¬U t → (b.hold t).published = (b.hold t).level)

/-- Every Boat Drive on its rail. -/
def Railed (R : Tube → Option Rail) (_S _U : Tube → Prop) (b : Bank) : Prop := OnRails R b ∧ ∀ t, (b.boat t).onRail

variable {R : Tube → Option Rail} {S U : Tube → Prop} {b : Bank} {t : Tube}

theorem onRails_boat {f : Boat → Boat} (h : OnRails R b) (hf : (f (b.boat t)).rail = (b.boat t).rail) :
    OnRails R (b.modBoat t f) := by
  intro u
  rw [Bank.boat_modBoat]
  split
  · subst_vars; rw [hf]; exact h _
  · exact h u

theorem unset_boat {b0 : Bank} {f : Boat → Boat} (h1 : (f (b.boat t)).rail = (b.boat t).rail)
    (h2 : (f (b.boat t)).table = (b.boat t).table) (h3 : (f (b.boat t)).sensorRaw = (b.boat t).sensorRaw)
    (h4 : (f (b.boat t)).sensor = (b.boat t).sensor) (h : Unset b0 S U b) : Unset b0 S U (b.modBoat t f) := by
  refine ⟨by simpa using h.1, fun k => ?_⟩
  have hk := h.2 k
  cases k <;> simp only [Setting.same, Bank.clock_modBoat, Bank.gasMap_modBoat, Bank.supply_modBoat,
    Bank.threshold_modBoat, Bank.ratio_modBoat, Bank.powerLimit_modBoat, Bank.interlock_modBoat, Bank.scanner_modBoat,
    Bank.link_modBoat, Bank.gas_modBoat, Bank.run_modBoat, Bank.zonesConfig_modBoat] at hk ⊢ <;>
    try exact hk
  all_goals
    intro u
    have := hk u
    rw [Bank.boat_modBoat]
    split
    · subst_vars; simp only [h1, h2, h3, h4]; exact this
    · exact this

theorem kept_unset (b0 : Bank) : Kept False False (fun t => (b0.boat t).rail) (Unset b0) where
  rails h := h.2 .rails
  unformed _ h := h
  unpublished _ h := h
  report _ _ _ _ _ _ h := ⟨h.1, fun k => by have := h.2 k; cases k <;> exact this⟩
  supply f hf h := ⟨h.1, fun k => by
    have := h.2 k
    cases k <;> first | exact this | exact hf.trans this⟩
  tc _ h := ⟨h.1, fun k => by have := h.2 k; cases k <;> exact this⟩
  run t f hr _ h := ⟨by simpa using h.1, fun k => by
    have := h.2 k
    cases k <;> simp_all [Setting.same]
    intro u
    rw [Bank.run_modRun]
    split
    · subst_vars; rw [hr]
    · exact this u⟩
  ramp _ _ h := ⟨by simpa using h.1, fun k => by have := h.2 k; cases k <;> simp_all [Setting.same]⟩
  loops _ _ _ h := ⟨by simpa using h.1, fun k => by have := h.2 k; cases k <;> simp_all [Setting.same]⟩
  gas t f hf _ h := ⟨by simpa using h.1, fun k => by
    have := h.2 k
    cases k <;> simp_all [Setting.same]
    intro u
    rw [Bank.gas_modGas]
    split
    · subst_vars; rw [hf]
    · exact this u⟩
  drive t h := ⟨by simpa using h.1, fun k => by
    have := h.2 k
    cases k <;> simp_all [Setting.same]
    intro u
    rw [Bank.gas_modGas]
    split
    · subst_vars; exact this _
    · exact this u⟩
  gate _ _ _ h := ⟨by simpa using h.1, fun k => by have := h.2 k; cases k <;> simp_all [Setting.same]⟩
  gateClose _ _ h := ⟨by simpa using h.1, fun k => by have := h.2 k; cases k <;> simp_all [Setting.same]⟩
  hold _ _ _ _ h := ⟨by simpa using h.1, fun k => by have := h.2 k; cases k <;> simp_all [Setting.same]⟩
  holdLevel _ _ _ _ _ h := ⟨by simpa using h.1, fun k => by have := h.2 k; cases k <;> simp_all [Setting.same]⟩
  published _ h := ⟨by simpa using h.1, fun k => by have := h.2 k; cases k <;> simp_all [Setting.same]⟩
  boat _ _ hf h := unset_boat hf.rail hf.table hf.raw hf.sensor h

theorem moves_unset (b0 : Bank) : KeptMoves False False (fun t => (b0.boat t).rail) (Unset b0) :=
  { kept_unset b0 with place := fun _ _ h1 h2 h3 h4 _ h => unset_boat h1 h2 h3 h4 h }

theorem kept_powered (b0 : Bank) : Kept False False (fun t => (b0.boat t).rail) (Powered b0) where
  rails h := h.1
  unformed _ h := h
  unpublished _ h := h
  report _ _ _ _ _ _ h := h
  supply _ _ h := h
  tc _ h := h
  run _ _ _ _ h := by simpa [Powered, OnRails] using h
  ramp _ _ h := by simpa [Powered, OnRails] using h
  loops t f hf h := by
    refine ⟨by simpa [OnRails] using h.1, by simpa using h.2.1, by simpa using h.2.2.1, fun u z => ?_⟩
    rw [Bank.loops_modLoops]
    split
    · subst_vars; exact hf z (h.2.2.2 _ z)
    · exact h.2.2.2 u z
  gas _ _ _ _ h := by simpa [Powered, OnRails] using h
  drive _ h := by simpa [Powered, OnRails] using h
  gate _ _ _ h := by simpa [Powered, OnRails] using h
  gateClose _ _ h := by simpa [Powered, OnRails] using h
  hold _ _ _ _ h := by simpa [Powered, OnRails] using h
  holdLevel _ _ _ _ _ h := by simpa [Powered, OnRails] using h
  published _ h := by simpa [Powered, OnRails] using h
  boat _ _ hf h := ⟨onRails_boat h.1 hf.rail, by simpa using h.2⟩

theorem moves_powered (b0 : Bank) : KeptMoves False False (fun t => (b0.boat t).rail) (Powered b0) :=
  { kept_powered b0 with place := fun _ _ h1 _ _ _ _ h => ⟨onRails_boat h.1 h1, by simpa using h.2⟩ }

theorem Bank.channelClass_of (b b' : Bank) (t : Tube) (c : Channel) (h1 : b'.gasMap = b.gasMap)
    (h2 : (b'.gas t).config = (b.gas t).config) : b'.channelClass t c = b.channelClass t c := by
  unfold Bank.channelClass Bank.channelEntry Bank.channelConfig
  rw [h1, h2]

theorem gated_of {b' : Bank} (hR : OnRails R b') (hm : b'.gasMap = b.gasMap) (hg : b'.gas = b.gas)
    (hi : ∀ u, ¬S u → (b.gate u).isOpen = true → (b'.gate u).isOpen = true) (h : Gated R S U b) : Gated R S U b' := by
  refine ⟨hR, fun u hu c hc => ?_⟩
  have hgu : b'.gas u = b.gas u := congrFun hg u
  rw [Bank.channelClass_of b b' u c hm (by rw [hgu]), hgu]
  rw [hgu] at hc
  exact ⟨(h.2 u hu c hc).1, fun e => hi u hu ((h.2 u hu c hc).2 e)⟩

theorem kept_gated (R : Tube → Option Rail) : Kept False False R (Gated R) where
  rails h := h.1
  unformed _ h := ⟨h.1, fun u hu => h.2 u fun e => hu (.inl e)⟩
  unpublished _ h := h
  report _ _ _ _ _ _ h := h
  supply _ _ h := h
  tc _ h := h
  run _ _ _ _ h := gated_of (by simpa [OnRails] using h.1) (by simp) (by funext u; simp) (by simp) h
  ramp _ _ h := gated_of (by simpa [OnRails] using h.1) (by simp) (by funext u; simp) (by simp) h
  loops _ _ _ h := gated_of (by simpa [OnRails] using h.1) (by simp) (by funext u; simp) (by simp) h
  gas t f h1 h2 h := by
    refine ⟨by simpa [OnRails] using h.1, fun u hu c hc => ?_⟩
    rename_i b
    have hcfg : ((b.modGas t f).gas u).config = (b.gas u).config := by
      rw [Bank.gas_modGas]; split
      · subst_vars; exact h1
      · rfl
    rw [Bank.channelClass_of b _ u c (by simp) hcfg, hcfg]
    simp only [Bank.gate_modGas]
    refine h.2 u hu c ?_
    rw [Bank.gas_modGas] at hc
    split at hc
    · subst_vars; rw [h2] at hc; exact hc
    · exact hc
  drive t h := by
    refine ⟨by simpa [OnRails] using h.1, fun u hu c hc => ?_⟩
    rename_i b
    have hcfg : ((b.modGas t fun g => { g with channels := b.drivenChannels t }).gas u).config = (b.gas u).config := by
      rw [Bank.gas_modGas]; split
      · subst_vars; rfl
      · rfl
    rw [Bank.channelClass_of b _ u c (by simp) hcfg, hcfg]
    simp only [Bank.gate_modGas]
    rw [Bank.gas_modGas] at hc
    split at hc
    · subst_vars
      have he : 0 < b.effectiveFlow u c := by
        simp only [Bank.drivenChannels, Fin.getElem_fin, Vector.getElem_ofFn] at hc
        unfold GasChannel.drive at hc
        split at hc
        · rename_i e; exact e ▸ hc
        · exact hc
      unfold Bank.effectiveFlow at he
      dsimp only at he
      split at he
      · exact absurd he (Nat.lt_irrefl 0)
      · rename_i hsome
        refine ⟨by cases hx : (b.gas u).config <;> simp_all, fun e => ?_⟩
        cases ho : (b.gate u).isOpen with
        | true => rfl
        | false => simp [e, ho] at he
    · exact h.2 u (fun e => hu (e.elim id fun e => absurd e ‹_›)) c hc
  gate t f hf h := gated_of (by simpa [OnRails] using h.1) (by simp) (by funext u; simp) (by
    intro u _ ho
    rw [Bank.gate_modGate]; split
    · subst_vars; exact hf ho
    · exact ho) h
  gateClose t f h := gated_of (b := _) (by simpa [OnRails] using h.1) (by simp) (by funext u; simp) (by
    intro u hu ho
    rw [Bank.gate_modGate]; split
    · subst_vars; exact absurd (.inr rfl) hu
    · exact ho) ⟨h.1, fun u hu => h.2 u fun e => hu (.inl e)⟩
  hold _ _ _ _ h := gated_of (by simpa [OnRails] using h.1) (by simp) (by funext u; simp) (by simp) h
  holdLevel _ _ _ _ _ h := gated_of (by simpa [OnRails] using h.1) (by simp) (by funext u; simp) (by simp) h
  published _ h := gated_of (by simpa [OnRails] using h.1) (by simp) (by funext u; simp) (by simp) h
  boat _ _ hf h := gated_of (onRails_boat h.1 hf.rail) (by simp) (by funext u; simp) (by simp) h

theorem moves_gated (R : Tube → Option Rail) : KeptMoves False False R (Gated R) :=
  { kept_gated R with
    place := fun _ _ h1 _ _ _ _ h => gated_of (onRails_boat h.1 h1) (by simp) (by funext u; simp) (by simp) h }

theorem held_hold {f : HoldUnit → HoldUnit} (ho : (b.hold t).ordered → (f (b.hold t)).ordered)
    (hl : (f (b.hold t)).published = (b.hold t).published) (h : Held R S U b) : Held R S (withTube U t) (b.modHold t f) := by
  refine ⟨by simpa [OnRails] using h.1, fun u => ?_⟩
  rw [Bank.hold_modHold]
  split
  · subst_vars; exact ⟨ho (h.2 _).1, fun e => absurd (.inr rfl) e⟩
  · exact ⟨(h.2 u).1, fun e => (h.2 u).2 fun e' => e (.inl e')⟩

theorem kept_held (R : Tube → Option Rail) : Kept False True R (Held R) where
  rails h := h.1
  unformed _ h := h
  unpublished _ h := ⟨h.1, fun u => ⟨(h.2 u).1, fun e => (h.2 u).2 fun e' => e (.inl e')⟩⟩
  report _ _ _ _ _ _ h := h
  supply _ _ h := h
  tc _ h := h
  run _ _ _ _ h := by simpa [Held, OnRails] using h
  ramp _ _ h := by simpa [Held, OnRails] using h
  loops _ _ _ h := by simpa [Held, OnRails] using h
  gas _ _ _ _ h := by simpa [Held, OnRails] using h
  drive _ h := by simpa [Held, OnRails] using h
  gate _ _ _ h := by simpa [Held, OnRails] using h
  gateClose _ _ h := by simpa [Held, OnRails] using h
  hold _ _ hp ho h := held_hold (ho trivial) hp h
  holdLevel t f hp hl ho h := by
    refine ⟨by simpa [OnRails] using h.1, fun u => ?_⟩
    rw [Bank.hold_modHold]
    split
    · subst_vars; exact ⟨ho trivial (h.2 _).1, fun e => by rw [hp, hl]; exact (h.2 _).2 e⟩
    · exact h.2 u
  published t h := by
    refine ⟨by simpa [OnRails] using h.1, fun u => ?_⟩
    rw [Bank.hold_modHold]
    split
    · subst_vars; exact ⟨(h.2 _).1, fun _ => rfl⟩
    · exact ⟨(h.2 u).1, fun e => (h.2 u).2 fun e' => e'.elim e fun e'' => absurd e'' ‹_›⟩
  boat _ _ hf h := ⟨onRails_boat h.1 hf.rail, by simpa using h.2⟩

theorem moves_held (R : Tube → Option Rail) : KeptMoves False True R (Held R) :=
  { kept_held R with place := fun _ _ h1 _ _ _ _ h => ⟨onRails_boat h.1 h1, by simpa using h.2⟩ }

theorem railed_boat {f : Boat → Boat} (h1 : (f (b.boat t)).rail = (b.boat t).rail)
    (h2 : (b.boat t).onRail → (f (b.boat t)).onRail) (h : Railed R S U b) : Railed R S U (b.modBoat t f) := by
  refine ⟨onRails_boat h.1 h1, fun u => ?_⟩
  rw [Bank.boat_modBoat]
  split
  · subst_vars; exact h2 (h.2 _)
  · exact h.2 u

theorem kept_railed (R : Tube → Option Rail) : Kept True False R (Railed R) where
  rails h := h.1
  unformed _ h := h
  unpublished _ h := h
  report _ _ _ _ _ _ h := h
  supply _ _ h := h
  tc _ h := h
  run _ _ _ _ h := by simpa [Railed, OnRails] using h
  ramp _ _ h := by simpa [Railed, OnRails] using h
  loops _ _ _ h := by simpa [Railed, OnRails] using h
  gas _ _ _ _ h := by simpa [Railed, OnRails] using h
  drive _ h := by simpa [Railed, OnRails] using h
  gate _ _ _ h := by simpa [Railed, OnRails] using h
  gateClose _ _ h := by simpa [Railed, OnRails] using h
  hold _ _ _ _ h := by simpa [Railed, OnRails] using h
  holdLevel _ _ _ _ _ h := by simpa [Railed, OnRails] using h
  published _ h := by simpa [Railed, OnRails] using h
  boat _ _ hf h := railed_boat hf.rail (hf.onRail trivial) h

theorem moves_railed (R : Tube → Option Rail) : KeptMoves True False R (Railed R) :=
  { kept_railed R with place := fun _ _ h1 _ _ _ h2 h => railed_boat h1 (h2 trivial) h }

end Sys2Proof.Machine
end

