-- ==== Sys2Proof/Laws/Commands.lean ====
section
/-! SUPPORT. What a command does beside its owner's decision or its event: the receiver, the reply and the offered reports
touch the link and the outbox alone, and a re-examination that was called for is made at its end. A property of the rest of
the bank that a re-examination keeps is kept by every command whose decision or event keeps it. -/

namespace Sys2Proof.Machine

/-- A property that does not read the link or the outbox, and that the re-examination at the end of an event keeps. -/
structure LinkFree (Q : Bank → Prop) : Prop where
  link : ∀ b l o, Q b → Q { b with link := l, outbox := o }
  settle : ∀ {b}, Q b → Q (b.settle publish)

variable {Q : Bank → Prop} {b : Bank}

theorem LinkFree.receive (F : LinkFree Q) (r : Receiver) (h : Q b) : Q (b.receive r) := F.link b _ b.outbox h
theorem LinkFree.hunting (F : LinkFree Q) (h : Q b) : Q b.hunting := F.link b _ b.outbox h
theorem LinkFree.discard (F : LinkFree Q) (h : Q b) : Q b.discard := F.link b _ b.outbox h
theorem LinkFree.close (F : LinkFree Q) (h : Q b) : Q b.close := F.link _ _ [] (F.settle h)

theorem LinkFree.conclude (F : LinkFree Q) {d : Decision} (k tag : Byte) (h : Q d.1) : Q (Bank.conclude d k tag) :=
  F.close (F.link d.1 _ d.1.outbox h)

theorem LinkFree.takeTubeRequest (F : LinkFree Q) {r : Req} {tag : Byte} {p : List Byte}
    {owner : Tube → List Byte → Bank → Decision} (ho : ∀ t b, Q b → Q (owner t p b).1) (h : Q b) :
    Q (b.takeTubeRequest r tag p owner) := by
  have h1 := F.hunting h
  unfold Bank.takeTubeRequest
  dsimp only
  split
  · exact F.discard h1
  · refine F.conclude _ _ ?_
    split
    · exact h1
    · split
      · exact h1
      · split
        · exact h1
        · exact ho _ _ h1

theorem LinkFree.takeBankRequest (F : LinkFree Q) {r : Req} {tag : Byte} {p : List Byte}
    {owner : List Byte → Bank → Decision} (ho : ∀ b, Q b → Q (owner p b).1) (h : Q b) :
    Q (b.takeBankRequest r tag p owner) := by
  have h1 := F.hunting h
  unfold Bank.takeBankRequest
  dsimp only
  split
  · exact F.discard h1
  · refine F.conclude _ _ ?_
    split
    · exact h1
    · exact ho _ h1

theorem LinkFree.takeUnknown (F : LinkFree Q) (k tag : Byte) (h : Q b) : Q (b.takeUnknown k tag) := by
  have h1 := F.hunting h
  unfold Bank.takeUnknown
  dsimp only
  split
  · exact h1
  · split
    · exact F.discard h1
    · exact F.conclude _ _ h1

theorem Bank.readSteps_fst (t : Tube) (p : List Byte) : (b.readSteps t p).1 = b := by
  unfold Bank.readSteps; dsimp only; split <;> rfl

theorem Bank.readTube_fst (t : Tube) (p : List Byte) : (b.readTube t p).1 = b := by
  unfold Bank.readTube; split <;> rfl

/-- Every request, given its owner's decision on each kind that is no READ. -/
structure OwnersKeep (Q : Bank → Prop) : Prop where
  free : LinkFree Q
  loadSteps : ∀ {b} t p, Q b → Q (b.loadSteps t p).1
  clearSteps : ∀ {b} t p, Q b → Q (b.clearSteps t p).1
  startRun : ∀ {b} t p, Q b → Q (b.startRun publish t p).1
  abortRun : ∀ {b} t p, Q b → Q (b.abortRun publish t p).1
  resetTube : ∀ {b} t p, Q b → Q (b.resetTube publish t p).1
  hold : ∀ {b} t p, Q b → Q (b.holdRequest publish t p).1
  release : ∀ {b} t p, Q b → Q (b.releaseRequest publish t p).1
  setIdleTemperature : ∀ {b} t p, Q b → Q (b.setIdleTemperature t p).1
  configureZones : ∀ {b} t p, Q b → Q (b.configureZones publish t p).1
  setPowerLimit : ∀ {b} p, Q b → Q (b.setPowerLimit p).1
  configureChannels : ∀ {b} t p, Q b → Q (b.configureChannels publish t p).1
  setGasMap : ∀ {b} p, Q b → Q (b.setGasMap publish p).1
  setSupplyLimit : ∀ {b} p, Q b → Q (b.setSupplyLimit p).1
  setGateLimits : ∀ {b} p, Q b → Q (b.setGateLimits p).1
  configureRail : ∀ {b} t p, Q b → Q (b.configureRail publish t p).1
  locateBoat : ∀ {b} t p, Q b → Q (b.locateBoat publish t p).1
  moveBoat : ∀ {b} t p, Q b → Q (b.moveBoat publish t p).1
  clearMotionFault : ∀ {b} t p, Q b → Q (b.clearMotionFault publish t p).1
  setSpeedTable : ∀ {b} t p, Q b → Q (b.setSpeedTable t p).1
  setActionTable : ∀ {b} p, Q b → Q (b.setActionTable publish p).1
  setReportLevel : ∀ {b} p, Q b → Q (b.setReportLevel p).1
  restartBank : ∀ {b} p, Q b → Q (b.restartBank p).1

theorem OwnersKeep.takeRequest (K : OwnersKeep Q) (r : Req) (tag : Byte) (p : List Byte) (h : Q b) :
    Q (b.takeRequest r tag p) := by
  cases r
  · exact K.free.takeTubeRequest (fun t _ h => K.loadSteps t p h) h
  · exact K.free.takeTubeRequest (fun t _ h => K.clearSteps t p h) h
  · exact K.free.takeTubeRequest (fun t b h => by rwa [Bank.readSteps_fst]) h
  · exact K.free.takeTubeRequest (fun t _ h => K.startRun t p h) h
  · exact K.free.takeTubeRequest (fun t _ h => K.abortRun t p h) h
  · exact K.free.takeTubeRequest (fun t _ h => K.resetTube t p h) h
  · exact K.free.takeTubeRequest (fun t _ h => K.hold t p h) h
  · exact K.free.takeTubeRequest (fun t _ h => K.release t p h) h
  · exact K.free.takeTubeRequest (fun t _ h => K.setIdleTemperature t p h) h
  · exact K.free.takeTubeRequest (fun t _ h => K.configureZones t p h) h
  · exact K.free.takeBankRequest (fun _ h => K.setPowerLimit p h) h
  · exact K.free.takeBankRequest (fun _ h => h) h
  · exact K.free.takeTubeRequest (fun t _ h => K.configureChannels t p h) h
  · exact K.free.takeBankRequest (fun _ h => K.setGasMap p h) h
  · exact K.free.takeBankRequest (fun _ h => K.setSupplyLimit p h) h
  · exact K.free.takeBankRequest (fun _ h => K.setGateLimits p h) h
  · exact K.free.takeTubeRequest (fun t _ h => K.configureRail t p h) h
  · exact K.free.takeTubeRequest (fun t _ h => K.locateBoat t p h) h
  · exact K.free.takeTubeRequest (fun t _ h => K.moveBoat t p h) h
  · exact K.free.takeTubeRequest (fun t _ h => K.clearMotionFault t p h) h
  · exact K.free.takeTubeRequest (fun t _ h => K.setSpeedTable t p h) h
  · exact K.free.takeBankRequest (fun _ h => K.setActionTable p h) h
  · exact K.free.takeBankRequest (fun _ h => K.setReportLevel p h) h
  · exact K.free.takeBankRequest (fun _ h => h) h
  · exact K.free.takeBankRequest (fun _ h => K.restartBank p h) h
  · exact K.free.takeTubeRequest (fun t b h => by rwa [Bank.readTube_fst]) h
  · exact K.free.takeBankRequest (fun _ h => h) h

theorem OwnersKeep.takeFrame (K : OwnersKeep Q) (k tag : Byte) (p : List Byte) (h : Q b) : Q (b.takeFrame k tag p) := by
  unfold Bank.takeFrame
  split
  · exact K.free.takeUnknown k tag h
  · exact K.takeRequest _ tag p h

theorem OwnersKeep.takeCharacter (K : OwnersKeep Q) (c : Byte) (h : Q b) : Q (b.takeCharacter c) := by
  unfold Bank.takeCharacter
  split
  · split
    · exact K.free.receive _ h
    · exact h
  · split <;> exact K.free.receive _ h
  · split <;> exact K.free.receive _ h
  · exact K.free.receive _ h
  · unfold Bank.judgeFrame
    split
    · split
      · exact K.takeFrame _ _ _ h
      · exact K.free.receive _ h
    · exact K.free.link _ _ _ h

/-- Every command, given the decisions of the requests and the events. -/
structure CommandsKeep (Q : Bank → Prop) : Prop extends OwnersKeep Q where
  powerUp : ∀ {b}, Q b → Q b.powerUp
  tick : ∀ {b}, Q b → Q b.tick
  runEngineExpiry : ∀ {b} t, Q b → Q (b.runEngineExpiry publish t)
  rampExpiry : ∀ {b} t, Q b → Q (b.rampExpiry publish t)
  zoneLoopExpiry : ∀ {b} t, Q b → Q (b.zoneLoopExpiry t)
  gasSample : ∀ {b} t v, Q b → Q (b.gasSample publish t v)
  tcConversion : ∀ {b} x, Q b → Q (b.tcConversion publish x)
  pin : ∀ {b} g i c, Q b → Q (b.modGroup g fun x => x.pin i c)
  takeInput : ∀ {b} g i, Q b → Q (b.takeInput publish g i)
  sensorPin : ∀ {b} t c, Q b → Q (b.modBoat t fun x => x.sensorPin c)
  takeSensor : ∀ {b} t, Q b → Q (b.takeSensor publish t)
  paddleStep : ∀ {b} t, Q b → Q (b.paddleStep publish t)
  markRead : ∀ {b} t k, Q b → Q (b.markRead publish t k)

/-- Every command answers a next state, and its bank has the property. -/
theorem CommandsKeep.exec (K : CommandsKeep Q) (c : Instr) (s : State) (h : Q s.bank) :
    ∃ b, Machine.exec c s = .next { s with bank := b } ∧ Q b := by
  cases c with
  | powerUp => exact ⟨_, rfl, K.powerUp h⟩
  | loadSteps tag p => exact ⟨_, rfl, K.takeRequest .loadSteps tag p h⟩
  | clearSteps tag p => exact ⟨_, rfl, K.takeRequest .clearSteps tag p h⟩
  | readSteps tag p => exact ⟨_, rfl, K.takeRequest .readSteps tag p h⟩
  | startRun tag p => exact ⟨_, rfl, K.takeRequest .startRun tag p h⟩
  | abortRun tag p => exact ⟨_, rfl, K.takeRequest .abortRun tag p h⟩
  | resetTube tag p => exact ⟨_, rfl, K.takeRequest .resetTube tag p h⟩
  | hold tag p => exact ⟨_, rfl, K.takeRequest .hold tag p h⟩
  | release tag p => exact ⟨_, rfl, K.takeRequest .release tag p h⟩
  | setIdleTemperature tag p => exact ⟨_, rfl, K.takeRequest .setIdleTemperature tag p h⟩
  | configureZones tag p => exact ⟨_, rfl, K.takeRequest .configureZones tag p h⟩
  | setPowerLimit tag p => exact ⟨_, rfl, K.takeRequest .setPowerLimit tag p h⟩
  | readReadings tag p => exact ⟨_, rfl, K.takeRequest .readReadings tag p h⟩
  | configureChannels tag p => exact ⟨_, rfl, K.takeRequest .configureChannels tag p h⟩
  | setGasMap tag p => exact ⟨_, rfl, K.takeRequest .setGasMap tag p h⟩
  | setSupplyLimit tag p => exact ⟨_, rfl, K.takeRequest .setSupplyLimit tag p h⟩
  | setGateLimits tag p => exact ⟨_, rfl, K.takeRequest .setGateLimits tag p h⟩
  | configureRail tag p => exact ⟨_, rfl, K.takeRequest .configureRail tag p h⟩
  | locateBoat tag p => exact ⟨_, rfl, K.takeRequest .locateBoat tag p h⟩
  | moveBoat tag p => exact ⟨_, rfl, K.takeRequest .moveBoat tag p h⟩
  | clearMotionFault tag p => exact ⟨_, rfl, K.takeRequest .clearMotionFault tag p h⟩
  | setSpeedTable tag p => exact ⟨_, rfl, K.takeRequest .setSpeedTable tag p h⟩
  | setActionTable tag p => exact ⟨_, rfl, K.takeRequest .setActionTable tag p h⟩
  | setReportLevel tag p => exact ⟨_, rfl, K.takeRequest .setReportLevel tag p h⟩
  | readBank tag p => exact ⟨_, rfl, K.takeRequest .readBank tag p h⟩
  | restartBank tag p => exact ⟨_, rfl, K.takeRequest .restartBank tag p h⟩
  | readTube tag p => exact ⟨_, rfl, K.takeRequest .readTube tag p h⟩
  | readInterlocks tag p => exact ⟨_, rfl, K.takeRequest .readInterlocks tag p h⟩
  | unknownKind k tag p => exact ⟨_, rfl, K.free.takeUnknown k tag h⟩
  | crcError => exact ⟨_, rfl, K.free.link _ _ _ h⟩
  | invalidFrameLength n => exact ⟨_, rfl, by split; exact K.free.receive _ h; exact h⟩
  | receiveGap => exact ⟨_, rfl, K.free.receive _ h⟩
  | framingError => exact ⟨_, rfl, K.free.receive _ h⟩
  | transmitComplete => exact ⟨_, rfl, by unfold Bank.transmitComplete; split; exact h; exact K.free.link _ _ _ h⟩
  | runEngineExpiry t => exact ⟨_, rfl, K.free.close (K.runEngineExpiry t h)⟩
  | rampExpiry t => exact ⟨_, rfl, K.free.close (K.rampExpiry t h)⟩
  | zoneLoopExpiry t => exact ⟨_, rfl, K.free.close (K.zoneLoopExpiry t h)⟩
  | gasSample t v => exact ⟨_, rfl, K.free.close (K.gasSample t v h)⟩
  | tcConversion x => exact ⟨_, rfl, K.free.close (K.tcConversion x h)⟩
  | interlockInputChange g i c => exact ⟨_, rfl, K.pin g i c h⟩
  | interlockInputTaken g i => exact ⟨_, rfl, K.free.close (K.takeInput g i h)⟩
  | sealSensorChange t c => exact ⟨_, rfl, K.sensorPin t c h⟩
  | sealSensorTaken t => exact ⟨_, rfl, K.free.close (K.takeSensor t h)⟩
  | paddleStep t => exact ⟨_, rfl, K.free.close (K.paddleStep t h)⟩
  | markRead t k => exact ⟨_, rfl, K.free.close (K.markRead t k h)⟩
  | characterTaken c => exact ⟨_, rfl, K.takeCharacter c h⟩
  | bankTick => exact ⟨_, rfl, K.tick h⟩

end Sys2Proof.Machine
end

