-- ==== Sys2Proof/Laws/Operations.lean ====
section
/-! SUPPORT. What the shared operations do in the states that the statements speak of: publication of an unchanged level, a
tube at its idle purge, ramps without a lag, and the readings of `Bool` tests as propositions. -/

namespace Sys2Proof.Machine

variable {b b' : Bank} {t : Tube} {pub : Publisher}

/-! ## Publication and reports -/

/-- A level that is already published changes nothing (R48). -/
theorem publish_same (h : (b.hold t).level = (b.hold t).published) : publish t b = b := by
  unfold publish Config.publishDepth
  rw [publishDown]
  unfold Bank.publishWith
  exact if_pos h

/-- A fold of reports appends them in order. -/
theorem reports_fold {α : Type} (l : List α) (f : α → Report) (b : Bank) (g : Bank → α → Bank)
    (h : ∀ b' x, b'.clock = b.clock → g b' x = { b' with outbox := b'.outbox ++ [f x] }) :
    l.foldl g b = { b with outbox := b.outbox ++ l.map f } := by
  induction l generalizing b with
  | nil => simp
  | cons x l ih =>
    rw [List.foldl_cons, h b x rfl]
    refine (ih { b with outbox := b.outbox ++ [f x] } (fun b' y hb => h b' y hb)).trans ?_
    simp

/-! ## Updates of one block after another -/

theorem Bank.modRamp_modRamp (f g : Ramp → Ramp) : (b.modRamp t f).modRamp t g = b.modRamp t fun r => g (f r) := by
  simp only [Bank.modRamp, Bank.modTube_modTube]
theorem Bank.modRamp_congr {f g : Ramp → Ramp} (h : f (b.ramp t) = g (b.ramp t)) : b.modRamp t f = b.modRamp t g := by
  unfold Bank.modRamp
  apply Bank.modTube_congr
  have : f (b.tube t).ramp = g (b.tube t).ramp := h
  rw [this]
theorem Bank.modRun_modRun (f g : RunEngine → RunEngine) : (b.modRun t f).modRun t g = b.modRun t fun r => g (f r) := by
  simp only [Bank.modRun, Bank.modTube_modTube]
theorem Bank.modRun_congr {f g : RunEngine → RunEngine} (h : f (b.run t) = g (b.run t)) : b.modRun t f = b.modRun t g := by
  unfold Bank.modRun
  apply Bank.modTube_congr
  have : f (b.tube t).run = g (b.tube t).run := h
  rw [this]

/-! ## Holds -/

theorem HoldUnit.ownsAt_iff (h : HoldUnit) (x : Source) (L : Nat) :
    h.ownsAt x L = true ↔ ∃ f ∈ h.stack, f.source = x ∧ f.level = L := by
  simp [HoldUnit.ownsAt]

/-- A level is at or above the threshold when it is above the hold level, or both are 7 (R32). -/
theorem HoldUnit.threshold_le_iff (h : HoldUnit) (L : Nat) (h1 : 1 ≤ L) (hL : L ≤ 7) (hlev : h.level ≤ 7) :
    h.threshold ≤ L ↔ h.level < L ∨ (L = 7 ∧ h.level = 7) := by
  unfold HoldUnit.threshold HoldUnit.level at *
  cases hs : h.stack with
  | nil => simp; omega
  | cons f l =>
    simp only [hs] at hlev ⊢
    split <;> omega

/-! ## Ramps -/

theorem Bank.advanceAllowed_iff : b.advanceAllowed t = true ↔
    ((b.run t).state = .running ∧ (b.run t).phase = .active ∧ (b.hold t).stack = [])
      ∨ ((b.run t).state = .idle ∧ (b.hold t).stack = []) ∨ (b.run t).state = .safe := by
  unfold Bank.advanceAllowed Bank.unheld
  cases (b.run t).state <;> simp

/-- Without RAMP_LAG, only the lag timer is set to 0. -/
theorem Bank.settleLag_nolag (h : (b.ramp t).lag = false) :
    b.settleLag t = b.modRamp t fun r => { r with lagTimer := 0 } := by
  unfold Bank.settleLag Bank.clearLag
  rw [if_neg]
  simp [h]

theorem forall_zone {P : Zone → Prop} : (∀ z, P z) ↔ P 0 ∧ P 1 ∧ P 2 :=
  ⟨fun h => ⟨h 0, h 1, h 2⟩, fun h z => match z with | 0 => h.1 | 1 => h.2.1 | 2 => h.2.2⟩
theorem allZones_all_iff (f : Zone → Bool) : allZones.all f = true ↔ ∀ z, f z = true := by
  simp [allZones, forall_zone]
theorem distance_le_iff (x y k : Int) : ((distance x y : Nat) : Int) ≤ k ↔ x - y ≤ k ∧ y - x ≤ k := by
  unfold distance
  omega

/-- The guaranteed-ramp test, read as a proposition (R64). -/
theorem Bank.guaranteePasses_iff : b.guaranteePasses t = true ↔ ∀ z, (b.control t z).status = .good →
    (b.control t z).value - ((b.ramp t).zones[z].accumulator + 32768) / 65536 ≤ (b.ramp t).band
      ∧ ((b.ramp t).zones[z].accumulator + 32768) / 65536 - (b.control t z).value ≤ (b.ramp t).band := by
  unfold Bank.guaranteePasses
  rw [allZones_all_iff]
  apply forall_congr'
  intro z
  rw [← distance_le_iff]
  simp only [ChannelRecord.isGood, Bank.setpoint, roundedSetpoint, Bool.not_eq_true', Bool.and_eq_false_iff,
    decide_eq_false_iff_not]
  constructor
  · rintro (h | h) h'
    · exact absurd h' h
    · exact Int.not_lt.mp (of_decide_eq_false h)
  · intro h
    by_cases hg : (b.control t z).status = .good
    · exact .inr (decide_eq_false (Int.not_lt.mpr (h hg)))
    · exact .inl hg

/-! ## The Supply Budget and a tube at its idle purge -/

/-- A tube that waits in no queue leaves none. -/
theorem Supply.leave_none {x : Supply} (h : x.waits t = false) : x.leave t = x := by
  unfold Supply.leave
  have : x.waiters.filter (fun w => decide (w.tube ≠ t)) = x.waiters := by
    rw [List.filter_eq_self]
    intro a ha
    simp [Supply.waits] at h
    simpa using h a ha
  rw [this]

/-- Without a waiter a re-examination does nothing (R116). -/
theorem Bank.reexamine_none (h : b.supply.waiters = []) : b.reexamine pub = b := by
  unfold Bank.reexamine
  rw [h]
  simp [Bank.passes, h, Bank.waiterPass]

/-- Without a waiter the end of an event only takes back the call for a re-examination (R116). -/
theorem Bank.settle_none (h : b.supply.waiters = []) : b.settle pub = b.modSupply fun s => { s with due := false } := by
  unfold Bank.settle
  split
  · rw [Bank.reexamine_none h]
  · rename_i hd
    obtain ⟨_, _, _, _, _, ⟨_, _, _, d⟩, _, _, _, _, _⟩ := b
    obtain rfl : d = false := by simpa using hd
    rfl

/-- Without a call for one, the end of an event makes no re-examination (R116). -/
theorem Bank.settle_idle (h : b.supply.due = false) : b.settle pub = b := by
  unfold Bank.settle
  rw [h]; rfl

/-- Without a waiter, a call for a re-examination leaves no trace once the event has ended (R116). -/
theorem Bank.close_call (h : b.supply.waiters = []) : (b.modSupply Supply.callReexamination).close = b.close := by
  unfold Bank.close
  rw [Bank.settle_none (b := b.modSupply Supply.callReexamination) h, Bank.settle_none h]
  rfl

/-- The same for a request (R116, R176). -/
theorem Bank.conclude_call (reply : List Byte) (k tag : Byte) (h : b.supply.waiters = []) :
    Bank.conclude (b.modSupply Supply.callReexamination, reply) k tag = Bank.conclude (b, reply) k tag :=
  Bank.close_call (b := b.placeReply (k + 0x80) tag reply) h

/-- What standing at the idle purge says of the allocations and of the channels. -/
theorem Bank.setIdlePurge_parts (h : b.setIdlePurge t = b) :
    b.supply.setAlloc t (b.idleVector t) = b.supply
      ∧ { b.gas t with channels := Vector.ofFn fun c =>
          { (b.gas t).channels[c] with requested := (b.idleFlows t)[c], uncovered := false } } = b.gas t := by
  refine ⟨congrArg Bank.supply h, ?_⟩
  have := congrArg (fun b => b.gas t) h
  simp only [Bank.setIdlePurge, Bank.setRequested, Bank.modGas, Bank.gas, Bank.tube_modTube_self] at this
  exact this

theorem Bank.setIdlePurge_uncovered (h : b.setIdlePurge t = b) (c : Channel) :
    (b.gas t).channels[c].uncovered = false := by
  rw [← (Bank.setIdlePurge_parts h).2]
  simp

/-- The map as a tube sees it, and its idle purge, depend on the map and on the tube's gas alone. -/
theorem Bank.entries_congr (hm : b'.gasMap = b.gasMap) (hg : b'.gas t = b.gas t) :
    b'.channelEntry t = b.channelEntry t ∧ b'.idleFlows t = b.idleFlows t ∧ b'.idleVector t = b.idleVector t := by
  have h1 : b'.channelConfig t = b.channelConfig t := by funext c; simp [Bank.channelConfig, hg]
  have h2 : b'.channelEntry t = b.channelEntry t := by funext c; simp [Bank.channelEntry, h1, hm]
  have h3 : b'.isPurge t = b.isPurge t := by funext c; simp only [Bank.isPurge, hg]
  have h4 : b'.idleFlows t = b.idleFlows t := by unfold Bank.idleFlows Bank.purgeFloor; rw [h3, hg]
  exact ⟨h2, h4, by unfold Bank.idleVector Bank.requestVector; rw [h2, h4]⟩

/-- A tube at its idle purge stays there while the budget, the map and its gas stay. -/
theorem Bank.idling_congr (hs : b'.supply = b.supply) (hm : b'.gasMap = b.gasMap) (hg : b'.gas t = b.gas t)
    (h : b.idling t) : b'.idling t := by
  obtain ⟨h2, h3, h4⟩ := Bank.entries_congr hm hg
  obtain ⟨i1, i2, i3⟩ := h
  refine ⟨by rw [hs]; exact i1, ?_, ?_⟩
  · obtain ⟨j1, j2⟩ := Bank.setIdlePurge_parts i2
    unfold Bank.setIdlePurge
    have : b'.modSupply (fun s => s.setAlloc t (b'.idleVector t)) = b' := by
      unfold Bank.modSupply
      simp only [hs, h4, j1]
      rw [← hs]
    simp only [this]
    unfold Bank.setRequested Bank.modGas
    apply Bank.modTube_self
    have : (b'.tube t).gas = b.gas t := hg
    simp only [this, h3, j2]
    rw [← this]
  · intro c
    simp only [hg, h2, Bank.channelClass] at i3 ⊢
    exact i3 c

/-- At its idle purge a tube's channels are driven to what R119 gives. -/
theorem Bank.effectiveFlow_idling (h : b.idling t) (c : Channel) :
    b.effectiveFlow t c = (b.gas t).channels[c].effective := by
  obtain ⟨_, i2, i3⟩ := h
  obtain ⟨h1, h2⟩ := i3 c
  rw [h1]
  by_cases hz : (b.gas t).channels[c].requested = 0
  · unfold Bank.effectiveFlow
    simp only [hz]
    repeat' split
    all_goals rfl
  · obtain ⟨hc, hl, hcls⟩ := h2 (by omega)
    unfold Bank.effectiveFlow
    rw [Bank.setIdlePurge_uncovered i2]
    simp only [hcls]
    obtain ⟨_, hc⟩ := Option.isSome_iff_exists.mp hc
    obtain ⟨_, hl⟩ := Option.isSome_iff_exists.mp hl
    simp [hc, hl]

theorem Bank.formEffective_idling (h : b.idling t) : b.formEffective pub t = b := by
  unfold Bank.formEffective
  simp only
  rw [if_pos]
  unfold Bank.drivenChannels
  apply Vector.ext
  intro i hi
  simp only [Vector.getElem_ofFn, Fin.getElem_fin]
  unfold GasChannel.drive
  have := Bank.effectiveFlow_idling h ⟨i, hi⟩
  simp only [Fin.getElem_fin] at this
  rw [if_pos this]

/-- A tube at its idle purge is left as it stands by another setting of it, which calls for a re-examination (R117). -/
theorem Bank.idlePurge_idling (h : b.idling t) : b.idlePurge pub t = b.modSupply Supply.callReexamination := by
  unfold Bank.idlePurge
  have e : b.cancelRequest t = b := by
    unfold Bank.cancelRequest Bank.modSupply
    simp only [Supply.leave_none (show b.supply.waits t = false by simp [Supply.waits, h.1])]
  rw [e, h.2.1, Bank.formEffective_idling h]

/-! ## Slots -/

theorem RunEngine.filledSlot_some {x : RunEngine} {n : Nat} (j : Slot) (hj : j.val = n) (h : x.slots[j] ≠ none) :
    x.filledSlot n = some j := by
  unfold RunEngine.filledSlot asFin
  subst hj
  rw [dif_pos j.2]
  cases hh : x.slots[j] with
  | none => exact absurd hh h
  | some c => simp only [Option.filter, hh, Option.isSome]; simp

theorem RunEngine.filledSlot_none {x : RunEngine} {n : Nat} (h : 64 ≤ n ∨ ∃ j : Slot, j.val = n ∧ x.slots[j] = none) :
    x.filledSlot n = none := by
  unfold RunEngine.filledSlot asFin
  rcases h with h | ⟨j, rfl, h⟩
  · rw [dif_neg (by omega)]; rfl
  · rw [dif_pos j.2]; simp only [Option.filter, h, Option.isSome]; simp

end Sys2Proof.Machine
end

