-- ==== Sys2Proof/Laws/Requests.lean ====
section
/-! SUPPORT. What taking a request comes to once its common checks are decided: one lemma for the requests that name a
tube and one for those that do not. -/

namespace Sys2Proof.Machine

/-- The tube a payload names. -/
theorem requestTube_eq {p : List Byte} {t : Tube} (h : u8 p 0 = t.val + 1) : requestTube p = some t := by
  unfold requestTube
  rw [h]
  match t with
  | 0 => rfl
  | 1 => rfl
  | 2 => rfl
  | 3 => rfl


theorem hunting_room {s : State} (h : s.hasRoom) : s.bank.hunting.repliesFull = false := by
  have : s.bank.link.replies.length < Config.replyPlaces := h
  exact decide_eq_false (Nat.not_le.mpr this)

/-- A request that names tube `t` and passes the common checks is decided by its owner (R175, R176). -/
theorem takeTubeRequest_owner {s : State} {r : Req} {tag : Byte} {p : List Byte} {t : Tube}
    {owner : Tube → List Byte → Bank → Decision} (room : s.hasRoom) (length : r.lengthOk p = true)
    (tube : u8 p 0 = t.val + 1) (state : (s.bank.run t).state = .unconfigured → r.takenUnconfigured = true) :
    s.bank.takeTubeRequest r tag p owner = Bank.conclude (owner t p s.bank.hunting) (BitVec.ofNat 8 r.code) tag := by
  unfold Bank.takeTubeRequest
  simp only [hunting_room room, length, requestTube_eq tube, Bank.run_hunting]
  by_cases h : (s.bank.run t).state = .unconfigured
  · simp [state h]
  · simp [h]

/-- A request on an UNCONFIGURED tube that does not admit it is refused (R175). -/
theorem takeTubeRequest_unconfigured {s : State} {r : Req} {tag : Byte} {p : List Byte} {t : Tube}
    {owner : Tube → List Byte → Bank → Decision} (room : s.hasRoom) (length : r.lengthOk p = true)
    (tube : u8 p 0 = t.val + 1) (state : (s.bank.run t).state = .unconfigured) (admits : r.takenUnconfigured = false) :
    s.bank.takeTubeRequest r tag p owner
      = Bank.conclude (s.bank.hunting, [0x14]) (BitVec.ofNat 8 r.code) tag := by
  unfold Bank.takeTubeRequest
  simp only [hunting_room room, length, requestTube_eq tube, Bank.run_hunting]
  simp [state, admits]; rfl

/-- A request that names no tube and has the right length is decided by its owner (R175, R176). -/
theorem takeBankRequest_owner {s : State} {r : Req} {tag : Byte} {p : List Byte} {owner : List Byte → Bank → Decision}
    (room : s.hasRoom) (length : r.lengthOk p = true) :
    s.bank.takeBankRequest r tag p owner = Bank.conclude (owner p s.bank.hunting) (BitVec.ofNat 8 r.code) tag := by
  unfold Bank.takeBankRequest
  simp [hunting_room room, length]

end Sys2Proof.Machine
end

