-- ==== Sys2Proof/Tests/Slice0.lean ====
section
/-! SUPPORT. The model's own tests: ill-formed commands refused by WellFormed, one step of every command on a small bank
(the expected values are those of the manual's worked examples, or worked out by hand from the rules), and for every
statement with hypotheses a state and operands that meet them, clause by clause. -/

namespace Sys2Proof.Tests

open Sys2Proof.Machine

/-! The tests are evaluated one after another, not each in a thread of its own. -/
set_option Elab.async false

/-! ## A small bank -/

/-- The state after a command that answers a next state. -/
def after (i : Instr) (s : State) : State :=
  match exec i s with
  | .next s' => s'
  | _ => s

/-- A zone record; the gains and the rating are those of zone 2 in the example of 4.3. -/
def zoneConfig : ZoneConfig := ⟨140000, 8192, 2048, 60000, 1800, 145000⟩
def zones : ZonesConfig := ⟨1024, 60000, 500, Vector.replicate 3 zoneConfig⟩
/-- Channel 1 nitrogen and the purge channel, 2 oxygen, 3 hydrogen, the rest nitrogen, as in the examples of 6.4 and 7.7. -/
def gases : GasConfig :=
  ⟨2000, 20000, #v[⟨0, 30000, 20, true⟩, ⟨1, 20000, 20, false⟩, ⟨2, 20000, 20, false⟩, ⟨0, 10000, 20, false⟩,
    ⟨0, 10000, 20, false⟩, ⟨0, 10000, 20, false⟩]⟩
/-- The rail of the examples of 8.8. -/
def rail : Rail := ⟨16000, 14000, 11000, 50, 200⟩
def reading (x : Int) : ChannelRecord := ⟨x, .good, 0, some x⟩
def purging : Vector GasChannel 6 :=
  #v[⟨2000, false, 2000, 2000, 10240, 0⟩, ⟨0, false, 0, 0, 0, 0⟩, ⟨0, false, 0, 0, 0, 0⟩, ⟨0, false, 0, 0, 0, 0⟩,
    ⟨0, false, 0, 0, 0, 0⟩, ⟨0, false, 0, 0, 0, 0⟩]

/-- An IDLE tube at its idle purge, its paddle STOPPED at 0. -/
def tube : TubeState := { TubeState.reset false with
  run := { RunEngine.reset with state := .idle }
  zonesConfig := some zones
  period := some 1024
  gas := { GasUnit.reset with config := some gases, channels := purging }
  boat := { Boat.reset false with
    rail := some rail, paddle := .stopped, position := some 0
    table := #v[600, 600, 600, 600, 600, 600, 300, 300, 150, 100, 100, 100, 0, 0, 0, 0] } }

/-- Tubes 1 to 3 configured and IDLE, tube 4 UNCONFIGURED, every channel GOOD at 89000. -/
def bank : Bank := { State.reset.bank with
  clock := 5000
  tubes := #v[tube, tube, tube, TubeState.reset false]
  powerLimit := 6000
  scanner := ⟨Vector.replicate 25 (reading 89000), 0, Vector.replicate 4 false⟩
  gasMap := #v[⟨some 0, .inert⟩, ⟨some 2, .oxidant⟩, ⟨some 5, .flammable⟩, ⟨none, .inert⟩, ⟨none, .inert⟩, ⟨none, .inert⟩,
    ⟨none, .inert⟩, ⟨none, .inert⟩, ⟨none, .inert⟩, ⟨none, .inert⟩, ⟨none, .inert⟩, ⟨none, .inert⟩, ⟨none, .inert⟩,
    ⟨none, .inert⟩, ⟨none, .inert⟩, ⟨none, .inert⟩]
  supply := ⟨#v[60000, 0, 20000, 0, 0, 10000, 0, 0],
    #v[#v[2000, 0, 0, 0, 0, 0, 0, 0], #v[2000, 0, 0, 0, 0, 0, 0, 0], #v[2000, 0, 0, 0, 0, 0, 0, 0], Vector.replicate 8 0], [], false⟩
  threshold := 70000
  ratio := 1800 }

/-- The small bank with some changes, and no command waiting. -/
def having (f : Bank → Bank) : State := ⟨f bank, []⟩
/-- The small bank as it stands. -/
def idle : State := having id

/-- A record with nothing but its fixed core, duration `d` and max time `m`. -/
def plain (d m : Nat) : StepRecord := ⟨d, m, none, none, none, none, none, none, false⟩
/-- Steps stored from slot 0 upward. -/
def listed (l : List SlotContent) : Vector (Option SlotContent) 64 := Vector.ofFn fun i => l[i.val]?
/-- Tube 1 ACTIVE in the first of some steps. -/
def running (l : List SlotContent) (b : Bank) : Bank := b.modRun 0 fun x => { x with
  state := .running, phase := .active, activated := true, step := some 0, highWater := some 0, slots := listed l }
/-- A frame of a source at a level, its condition present or cleared. -/
def held (s : Source) (L : Nat) (present : Bool) : Frame := ⟨L, s, 5000, none, present⟩
/-- Tube 1 under some frames, the top one first, published, with their sources' records. -/
def under (l : List Frame) (b : Bank) : Bank := b.modHold 0 fun h =>
  l.foldl (fun h f => h.setRecord f.source ⟨f.present, f.level⟩)
    { h with stack := l, published := (l.head?.map (·.level)).getD 0, level7 := (l.filter (·.level = 7)).map (·.source) }
/-- Tube 1 with its paddle travelling from `p` at `q` under an order to `g`. -/
def travelling (p q g : Nat) (b : Bank) : Bank := (b.modBoat 0 fun x => { x with
  paddle := .moving, position := some q, order := some ⟨.host, g, 300, none, false⟩, speed := 150, band := 8
  travel := some ⟨decide (p < g), p, g, 300, 150, []⟩ }).modHold 0 fun h => { h with
    window := decide (11000 ≤ q) && decide (q ≤ 14000) }
/-- Tube 1 with its paddle at rest at the in-position, the seal made. -/
def sealedIn (b : Bank) : Bank := (b.modBoat 0 fun x => { x with
  position := some 14000, sensorRaw := true, sensor := true }).modGate 0 fun g => { g with sealed := true }
/-- The transmitter busy with a frame, so that replies and reports stay in their queues. -/
def busy (b : Bank) : Bank := { b with link := { b.link with sending := some [] } }
/-- Flow returns of so many sccm, each a proportion of the full scale of its channel in `gases`. -/
def returned (v : Vector Nat 6) : Vector FlowReturn 6 := Vector.ofFn fun c => ⟨v[c], gases.channels[c].fullScale⟩
/-- The kinds of the reports that wait. -/
def kinds (s : State) : List ReportKind := s.bank.link.reports.map (·.kind)
/-- The payloads of the replies that wait. -/
def replies (s : State) : List (List Byte) := s.bank.link.replies.map (·.payload)

/-! ## Ill-formed commands -/

/-- A payload above 248 characters fits no frame. -/
theorem test_wf_payload : (Instr.loadSteps 0 (List.replicate 249 0)).wellFormed = false := by decide +kernel
theorem test_wf_payload_fits : (Instr.loadSteps 0 (List.replicate 248 0)).wellFormed = true := by decide +kernel
/-- A request kind is not unknown. -/
theorem test_wf_kind : (Instr.unknownKind 0x1B 0 []).wellFormed = false
    ∧ (Instr.unknownKind 0x1C 0 (List.replicate 249 0)).wellFormed = false := by decide +kernel
/-- A length character of 2..250 is valid. -/
theorem test_wf_length : (Instr.invalidFrameLength 2).wellFormed = false
    ∧ (Instr.invalidFrameLength 250).wellFormed = false ∧ (Instr.invalidFrameLength 251).wellFormed = true := by
  decide +kernel
/-- A temperature that three characters cannot carry. -/
theorem test_wf_temperature : (Instr.tcConversion (some 8388608)).wellFormed = false
    ∧ (Instr.tcConversion (some (-8388608))).wellFormed = false := by decide +kernel
/-- A flow return is a proportion of something. -/
theorem test_wf_flow_return : (Instr.gasSample 0 (Vector.replicate 6 ⟨1, 0⟩)).wellFormed = false := by decide +kernel
/-- No rail has a mark 51. -/
theorem test_wf_mark : (Instr.markRead 0 51).wellFormed = false := by decide +kernel
/-- No row of the table gives bits. -/
theorem test_decode : decodeTableWord 16 0x1234 = none := rfl

/-! ## One step of every command -/

/-- 11.5, "a record and its frame": stored in slot 3 of tube 2, the OK reply carrying count 1 and next index 4. -/
theorem test_load_steps :
    let s := after (.loadSteps 7 [0x02, 0x03, 0x01, 0x09, 0x58, 0x02, 0x00, 0x00, 0x00, 0x00, 0xA0, 0x86, 0x01, 0xE8, 0x03,
      0x00, 0x00, 0x00, 0x00, 0x00, 0x02, 0x01, 0x88, 0x13, 0x02, 0x40, 0x1F]) (having busy)
    (s.bank.run 1).slots[3] = some ⟨⟨600, 0, some ⟨100000, 1000, none, 0, 0⟩, none, some [⟨1, 5000⟩, ⟨2, 8000⟩], none, none,
      none, false⟩, 0⟩ ∧ replies s = [[0x00, 1, 4, 0x00]] := by decide +kernel
/-- 1.2, "loading a list in pieces": a locked slot stops the list with PARTIAL, count 0 and IN_USE. -/
theorem test_load_steps_locked :
    replies (after (.loadSteps 7 [1, 0, 1, 0, 0, 0, 0, 0, 0, 0]) (having fun b => busy (running [⟨plain 60 0, 0⟩] b)))
      = [[0x01, 0, 0, 0x15]] := by decide +kernel
/-- R8: every slot is emptied. -/
theorem test_clear_steps :
    ((after (.clearSteps 7 [1]) (having fun b => b.modRun 0 fun x => { x with slots := listed [⟨plain 1 0, 0⟩] })).bank.run
      0).slots[0] = none := by decide +kernel
/-- R189: slot 63 empty is one character 0x00, next index 64. -/
theorem test_read_steps : replies (after (.readSteps 7 [1, 63]) (having busy)) = [[0x00, 63, 64, 1, 0x00]] := by
  decide +kernel
/-- 1.6, "a run with a repeat part", first row: the step without a gas part is ACTIVE at once. -/
theorem test_start_run :
    let s := after (.startRun 7 [1, 0, 0xFF])
      (having fun b => busy (b.modRun 0 fun x => { x with slots := listed [⟨plain 60 0, 0⟩] }))
    (s.bank.run 0).state = .running ∧ (s.bank.run 0).phase = .active ∧ kinds s = [.stepEntered, .stepActive] := by
  decide +kernel
/-- R24: without an abort index the run ends through HOST_ABORT at level 7, and the condition clears as it ends (1.7). -/
theorem test_abort_run :
    let s := after (.abortRun 7 [1]) (having fun b => busy (running [⟨plain 60 0, 0⟩] b))
    (s.bank.run 0).state = .safe ∧ (s.bank.run 0).outcome = .safed ∧ (s.bank.run 0).hostAbort = false
      ∧ kinds s = [.holdTaken, .safeEntered] := by decide +kernel
/-- R22, R23, R116: the grant that the abort gives room for follows the abort's own reports. -/
theorem test_abort_run_grants :
    let s := after (.abortRun 7 [1]) (having fun b => busy ((running [⟨plain 60 0, 0⟩, ⟨plain 1 0, 0⟩] b |>.modRun 0 fun x =>
      { x with phase := .waitGas, abortIndex := some 1 }).modSupply fun x => { x with waiters :=
        [⟨0, .step, #v[2000, 30000, 0, 0, 0, 0], #v[2000, 0, 30000, 0, 0, 0, 0, 0], [2]⟩,
         ⟨1, .step, #v[2000, 9000, 0, 0, 0, 0], #v[2000, 0, 9000, 0, 0, 0, 0, 0], [2]⟩] }))
    kinds s = [.runAborted, .stepEntered, .stepActive, .gasGranted] ∧ s.bank.supply.allocated 1 2 = 9000 := by decide +kernel
/-- 2.8, "overtemperature, an absorbed interlock and a reset", last row: the three leave, TC is presented again. -/
theorem test_reset_tube :
    let s := after (.resetTube 7 [1]) (having fun b => busy ((under [held .overtemp 7 false, held .host 1 true] b).modTube 0
      fun x => { x with
        run := { x.run with state := .safe }
        hold := { x.hold.setRecord .tc ⟨true, 5⟩ with pending := [⟨.tc, 5, 5000, true⟩] } }))
    (s.bank.run 0).state = .idle ∧ ((s.bank.hold 0).stack.map fun f => (f.source, f.level)) = [(.tc, 5)]
      ∧ kinds s = [.holdReleased, .holdReleased, .holdReleased, .holdTaken] := by decide +kernel
/-- 2.5, "light holds", second row: pended while the window is open. -/
theorem test_hold_pended :
    let s := after (.hold 7 [1, 2]) (having fun b => busy (b.modHold 0 fun h => { h with window := true }))
    replies s = [[0x00, 0x01]] ∧ kinds s = [.holdPending] := by decide +kernel
/-- R35: taken on an empty stack. -/
theorem test_hold_taken : replies (after (.hold 7 [1, 2]) (having busy)) = [[0x00, 0x00]] := by decide +kernel
/-- 2.5, "light holds", seventh row: popped, GAS_FLOW withdrawn, HOST 2 taken. -/
theorem test_release :
    let s := after (.release 7 [1, 6]) (having fun b => busy ((under [held .ilk2 6 false] b).modHold 0 fun h => { h with
      pending := [⟨.host, 2, 5000, true⟩, ⟨.gasFlow, 3, 5000, false⟩] }))
    ((s.bank.hold 0).stack.map fun f => (f.source, f.level)) = [(.host, 2)] ∧ (s.bank.hold 0).pending = []
      ∧ kinds s = [.holdReleased, .holdWithdrawn, .holdTaken] := by decide +kernel
/-- 3.6, "a cool-down interrupted by SAFE": an IDLE ramp to 70000 at rate 1000. -/
theorem test_set_idle_temperature :
    let s := after (.setIdleTemperature 7 [1, 0x70, 0x11, 0x01, 0xE8, 0x03]) idle
    (s.bank.ramp 0).kind = .idle ∧ (s.bank.ramp 0).inProgress = true ∧ (s.bank.ramp 0).zones[0].target = 70000 := by
  decide +kernel
/-- R75: an output above the new maximum is lowered to it, and its delivered output with it. -/
theorem test_configure_zones :
    let s := after (.configureZones 7 ([1, 0, 4, 0x60, 0xEA, 0, 0xF4, 1]
      ++ (List.replicate 3 ([0xE0, 0x22, 2, 0, 1, 0, 1, 0x10, 0x27, 8, 7, 0x68, 0x36, 2] : List Byte)).flatten))
      (having fun b => b.modLoops 0 fun v => v.set 0 ⟨0, 20000, false, false, false, false, 15000⟩)
    (s.bank.loops 0)[0] = ⟨0, 10000, false, false, false, false, 10000⟩
      ∧ (s.bank.tube 0).zonesConfig.map (·.period) = some 1024 := by decide +kernel
/-- 4.6, "a lowered limit": 2400, 2000, 1200 and 400 are cut to 2000, 1666, 1000 and 333. -/
theorem test_set_power_limit :
    let s := after (.setPowerLimit 7 [0x88, 0x13]) (having fun b =>
      (((b.modShare 0 fun _ => ⟨3000, 2400, true⟩).modShare 1 fun _ => ⟨2500, 2000, true⟩).modShare 2 fun _ =>
        ⟨1500, 1200, true⟩).modShare 3 fun _ => ⟨500, 400, true⟩)
    allTubes.map (fun t => (s.bank.share t).grant) = [2000, 1666, 1000, 333] := by decide +kernel
/-- R101: status, clock, channel and 25 records of 7 characters. -/
theorem test_read_readings :
    (replies (after (.readReadings 7 []) (having busy))).map (·.take 8) = [[0x00, 0x88, 0x13, 0, 0, 0, 0xA8, 0x5B]]
      ∧ (replies (after (.readReadings 7 []) (having busy))).map List.length = [181] := by decide +kernel
/-- R108: the floor of 1000 is allocated on the purge channel's line and requested of it. -/
theorem test_configure_channels :
    let s := after (.configureChannels 7 ([1, 0xE8, 3, 0, 0, 0, 0, 0, 0x10, 0x27, 20, 0, 1]
      ++ (List.replicate 5 ([1, 0x10, 0x27, 20, 0, 0] : List Byte)).flatten)) idle
    s.bank.supply.allocated 0 0 = 1000 ∧ (s.bank.gas 0).channels[0].effective = 1000 := by decide +kernel
/-- R104, R105: code 3 is written; the class of code 1, which tubes carry at flow 0 only, may change; code 0 is in use. -/
theorem test_set_gas_map :
    replies (after (.setGasMap 7 [3, 1, 1, 0x01]) (having busy)) = [[0x00, 1, 4, 0x00]]
      ∧ replies (after (.setGasMap 7 [0, 1, 0, 0x01]) (having busy)) = [[0x01, 0, 0, 0x15]] := by decide +kernel
/-- R118: a limit below the allocations of 6000 is IN_USE. -/
theorem test_set_supply_limit :
    replies (after (.setSupplyLimit 7 [0, 0x6F, 0x17, 0]) (having busy)) = [[0x15]]
      ∧ (after (.setSupplyLimit 7 [0, 0x70, 0x17, 0]) idle).bank.supply.limits[0] = 6000 := by decide +kernel
/-- R132. -/
theorem test_set_gate_limits :
    let s := after (.setGateLimits 7 [0x70, 0x11, 0x01, 0xD0, 0x07]) idle
    s.bank.threshold = 70000 ∧ s.bank.ratio = 2000 := by decide +kernel
/-- R142: the paddle stands above the new in-position and becomes UNLOCATED. -/
theorem test_configure_rail :
    let s := after (.configureRail 7 [1, 0x10, 0x27, 0x28, 0x23, 0x40, 0x1F, 50, 0, 200, 0]) (having sealedIn)
    (s.bank.boat 0).paddle = .unlocated ∧ (s.bank.gate 0).sealed = false := by decide +kernel
/-- 8.8, "a missed mark on withdrawal": LOCATE BOAT at min(200, 150, 50) = 50. -/
theorem test_locate_boat :
    let s := after (.locateBoat 7 [1]) (having fun b => b.modBoat 0 fun x => { x with paddle := .unlocated, position := none })
    (s.bank.boat 0).paddle = .moving ∧ (s.bank.boat 0).speed = 50 ∧ (s.bank.hold 0).window = true := by decide +kernel
/-- 8.8, "a push into a hot tube", first row: band 8, min(250, 150) = 150. -/
theorem test_move_boat :
    let s := after (.moveBoat 7 [1, 0xB0, 0x36, 250, 0]) (having busy)
    (s.bank.boat 0).speed = 150 ∧ (s.bank.boat 0).band = 8 ∧ replies s = [[0x00, 0xB0, 0x36]] := by decide +kernel
/-- 8.8, "a missed mark on withdrawal", fourth row. -/
theorem test_clear_motion_fault :
    let s := after (.clearMotionFault 7 [1]) (having fun b => (under [held .motion 5 true] b).modBoat 0 fun x => { x with
      paddle := .fault, position := some 12979, motion := true })
    (s.bank.boat 0).paddle = .unlocated ∧ (s.bank.hold 0).stack = [held .motion 5 false] := by decide +kernel
/-- R152: an entry of 601 refuses the whole table. -/
theorem test_set_speed_table :
    replies (after (.setSpeedTable 7 (1 :: (List.replicate 15 ([0x58, 2] : List Byte)).flatten ++ [0x59, 2])) (having busy))
      = [[0x12]] := by decide +kernel
/-- R166: the group byte 0 is in the written run, so ILK2 is raised at 4. -/
theorem test_set_action_table :
    let s := after (.setActionTable 7 [2, 0, 1, 4]) (having busy)
    ((s.bank.hold 0).stack.map fun f => (f.source, f.level)) = [(.ilk2, 4)] ∧ kinds s = [.interlockChange, .holdTaken] := by
  decide +kernel
/-- R179. -/
theorem test_set_report_level : (after (.setReportLevel 7 [7]) idle).bank.link.reportLevel = 7 := by decide +kernel
/-- R189: clock, then state and level of each tube, then the power limit. -/
theorem test_read_bank :
    (replies (after (.readBank 7 []) (having busy))).map (·.take 11)
      = [[0x00, 0x88, 0x13, 0, 0, 0x10, 0x10, 0x10, 0x00, 0x70, 0x17]] := by decide +kernel
/-- R185: every tube UNCONFIGURED, the clock 0. -/
theorem test_restart_bank :
    let s := after (.restartBank 7 []) idle
    (s.bank.run 0).state = .unconfigured ∧ s.bank.clock = 0 := by decide +kernel
/-- R189: status, clock, part RUN, state IDLE, three accepted flags. -/
theorem test_read_tube :
    (replies (after (.readTube 7 [1, 0]) (having busy))).map (·.take 10)
      = [[0x00, 0x88, 0x13, 0, 0, 0, 1, 1, 1, 1]] := by decide +kernel
/-- R192, R187: after the Ramp Generator's items part HEAT gives P = 1024 in the 4 characters of ticks, then the safe
temperature. -/
theorem test_read_tube_heat :
    (replies (after (.readTube 7 [1, 2]) (having busy))).map (fun l => (l.drop (6 + (idle.bank.rampBytes 0).length)).take 8)
      = [[0x01, 0x00, 0x04, 0x00, 0x00, 0x60, 0xEA, 0x00]] := by decide +kernel
/-- R189: ten groups of three characters and four summaries of three, group 0xFF for none. -/
theorem test_read_interlocks :
    (replies (after (.readInterlocks 7 []) (having busy))).map (·.drop 35)
      = [(List.replicate 4 ([0xFF, 0, 0] : List Byte)).flatten] := by decide +kernel
/-- R175: UNKNOWN_KIND from 0x1C to 0x7F. -/
theorem test_unknown_kind : replies (after (.unknownKind 0x1C 7 []) (having busy)) = [[0x10]] := by decide +kernel
/-- R174. -/
theorem test_crc_error : (after .crcError idle).bank.link.crcErrors = 1 := by decide +kernel
/-- R173: back to HUNT. -/
theorem test_invalid_frame_length :
    (after (.invalidFrameLength 251) (having fun b => b.receive .length)).bank.link.receiver = .hunt := by decide +kernel
theorem test_receive_gap :
    (after .receiveGap (having fun b => b.receive (.body 9 [1]))).bank.link.receiver = .hunt := by decide +kernel
theorem test_framing_error :
    (after .framingError (having fun b => b.receive (.check [1, 2] none))).bank.link.receiver = .hunt := by decide +kernel
/-- R177: the waiting reply's frame begins: start, length 3, kind, tag, status OK. -/
theorem test_transmit_complete :
    ((after .transmitComplete (having fun b => { busy b with link := { (busy b).link with
      replies := [⟨0x81, 7, [0]⟩] } })).bank.link.sending.map (·.take 5)) = some [0x5A, 3, 0x81, 7, 0] := by decide +kernel
/-- 1.5: a complete step with the final flag ends the run with outcome DONE. -/
theorem test_run_engine_expiry :
    let s := after (.runEngineExpiry 0) (having fun b => busy (running [⟨{ plain 0 0 with final := true }, 0⟩] b))
    (s.bank.run 0).state = .idle ∧ (s.bank.run 0).outcome = .done ∧ kinds s = [.stepDone, .runDone] := by decide +kernel
/-- 3.3, "the end of a ramp", period 1: P = 512, rate 1000, I = 546133. -/
theorem test_ramp_expiry :
    let s := after (.rampExpiry 0) (having fun b => b.modTube 0 fun x => { x with
      period := some 512
      ramp := { x.ramp with
        kind := .idle, inProgress := true, rate := 1000
        zones := Vector.replicate 3 ⟨5242880000, 5242880000, 100000, false⟩ } })
    (s.bank.ramp 0).zones[0].accumulator = 5243426133 := by decide +kernel
/-- 4.3, "three computations", near the setpoint, and 4.6, "one tube's share", zone 1's demand of 1253. -/
theorem test_zone_loop_expiry :
    let s := after (.zoneLoopExpiry 0) (having fun b => { (b.modTube 0 fun x => { x with
        ramp := { x.ramp with zones := Vector.replicate 3 ⟨6553600000, 0, 100000, true⟩ }
        loops := Vector.replicate 3 ⟨1310720000, 0, false, false, false, false, 0⟩ }) with
      scanner := ⟨Vector.replicate 25 (reading 99200), 0, Vector.replicate 4 false⟩ })
    (s.bank.loops 0)[1].integral = 1312358400 ∧ (s.bank.loops 0)[1].output = 45625 ∧ (s.bank.share 0).demand = 3 * 1253 := by
  decide +kernel
/-- 7.7, "lighting a pyrogenic step", sample 240: the gate opens. -/
theorem test_gas_sample :
    let s := after (.gasSample 0 (returned #v[5000, 6000, 0, 0, 0, 0])) (having fun b => busy ((sealedIn b).modTube 0 fun x => { x with
      gas := { x.gas with channels := #v[⟨5000, false, 5000, 5000, 10240, 0⟩, ⟨6000, false, 6000, 6000, 10240, 0⟩,
        ⟨10000, false, 0, 0, 10240, 0⟩, ⟨0, false, 0, 0, 0, 0⟩, ⟨0, false, 0, 0, 0, 0⟩, ⟨0, false, 0, 0, 0, 0⟩] }
      gate := { x.gate with sealed := true, credit := 4795000, oxidantTimer := 10240 } }))
    (s.bank.gate 0).credit = 4800000 ∧ (s.bank.gas 0).channels[2].effective = 10000 ∧ kinds s = [.gateOpen] := by
  decide +kernel
/-- 5.4, "a control thermocouple opens", round r + 3: the count reaches 4 and TC is raised at 5. -/
theorem test_tc_conversion :
    let s := after (.tcConversion none) (having fun b => busy { b with scanner := { b.scanner with
      records := b.scanner.records.set 11 ⟨100012, .opened, 3, none⟩, position := 11 } })
    s.bank.scanner.records[11] = ⟨100012, .opened, 4, none⟩ ∧ (s.bank.hold 1).level = 5 ∧ s.bank.scanner.position = 12 := by
  decide +kernel
/-- R162: the pin alone changes. -/
theorem test_interlock_input_change :
    let s := after (.interlockInputChange 4 1 true) idle
    (s.bank.group 4).raw = 2 ∧ (s.bank.group 4).byte = 0 := by decide +kernel
/-- 9.2, "one group asking three levels", first row: tube 2, group 2, byte 2, level 2. -/
theorem test_interlock_input_taken :
    let s := after (.interlockInputTaken 4 1) (having fun b => busy { b with interlock := { b.interlock with
      groups := b.interlock.groups.set 4 ⟨2, 0, 0, Vector.replicate 8 0⟩
      tables := b.interlock.tables.set 4 ((Vector.replicate 256 0).set 2 2) } })
    (s.bank.hold 1).level = 2 ∧ kinds s = [.interlockChange, .holdTaken] := by decide +kernel
/-- R159: the pin alone changes. -/
theorem test_seal_sensor_change :
    let s := after (.sealSensorChange 0 true) idle
    (s.bank.boat 0).sensorRaw = true ∧ (s.bank.boat 0).sensor = false := by decide +kernel
/-- 8.8, "a push into a hot tube", last row: SEAL_MADE. -/
theorem test_seal_sensor_taken :
    let s := after (.sealSensorTaken 0) (having fun b => busy (b.modBoat 0 fun x => { x with
      position := some 14000, sensorRaw := true }))
    (s.bank.gate 0).sealed = true ∧ kinds s = [.sealMade] := by decide +kernel
/-- 8.8, "a push into a hot tube": the step to 11000 enters the zone, min(100, 50) being the door-zone speed. -/
theorem test_paddle_step :
    let s := after (.paddleStep 0) (having (travelling 10600 10999 14000))
    (s.bank.boat 0).position = some 11000 ∧ (s.bank.boat 0).speed = 50 ∧ (s.bank.hold 0).window = true := by decide +kernel
/-- 8.8, "a missed mark on withdrawal": the step to 12979 leaves mark 26 unread. -/
theorem test_paddle_step_miss :
    let s := after (.paddleStep 0) (having fun b => busy (travelling 13600 12980 0 b))
    (s.bank.boat 0).paddle = .fault ∧ (s.bank.boat 0).position = some 12979 ∧ kinds s = [.motionFault, .holdTaken] := by
  decide +kernel
/-- 8.8, "a missed mark on withdrawal": mark 27 read at counted 13506, verified, resync. -/
theorem test_mark_read :
    ((after (.markRead 0 27) (having (travelling 14000 13506 0))).bank.boat 0).position = some 13500 := by decide +kernel
/-- R153, R157: a start mark ahead, read at a counted 1010, is the stopping point of a STOPPING paddle that left 990. -/
theorem test_mark_read_start_mark :
    let s := after (.markRead 0 2) (having fun b => (travelling 990 1010 3000 b).modBoat 0 fun x => { x with paddle := .stopping })
    (s.bank.boat 0).paddle = .stopped ∧ (s.bank.boat 0).position = some 1000 := by decide +kernel
/-- 11.1: 0x5A begins a frame. -/
theorem test_character_taken : (after (.characterTaken 0x5A) idle).bank.link.receiver = .length := by decide +kernel
/-- R182: the clock wraps. -/
theorem test_bank_tick : (after .bankTick (having fun b => { b with clock := 4294967295 })).bank.clock = 0 := by
  decide +kernel
/-- R186. -/
theorem test_power_up :
    let s := after .powerUp idle
    s.bank = State.reset.bank := by decide +kernel

/-! ## States that meet the hypotheses of the statements, clause by clause

Each theorem names its statement; its parts are the hypotheses of the statement's clauses, in order, at boundary values. -/

/-- The small bank with a link's receiver, replies and reports set. -/
def linked (f : Link → Link) : State := having fun b => { b with link := f b.link }
/-- A report at a level. -/
def atLevel (L : Nat) : Report := ⟨0, none, .stepDone, L, none, none, none⟩
def someReply : Reply := ⟨0x81, 1, [0]⟩
/-- Tube 1 in a run state. -/
def inState (x : RunState) (b : Bank) : Bank := b.modRun 0 fun r => { r with state := x }
/-- Tube 1 with its paddle in a state, at no position. -/
def paddled (x : PaddleState) (b : Bank) : Bank := b.modBoat 0 fun y => { y with paddle := x, position := none }
/-- Tube 1 with a pending entry. -/
def withEntry (s : Source) (L : Nat) (present : Bool) (b : Bank) : Bank :=
  b.modHold 0 fun h => { h with pending := [⟨s, L, 5000, present⟩] }
/-- Tube 4 UNCONFIGURED is tube 3 of `Fin 4`. -/
def lastTube : Tube := 3

theorem witness_StepTakesFront : State.reset.pending = [] := rfl

theorem witness_Receiver :
    (idle.bank.link.receiver = .hunt)
    ∧ (let s := linked fun l => { l with receiver := .length }
       s.bank.link.receiver = .length ∧ 2 ≤ (2 : Byte).toNat ∧ (250 : Byte).toNat ≤ 250
         ∧ (1 : Byte).toNat < 2 ∧ 250 < (251 : Byte).toNat)
    ∧ (let s := linked fun l => { l with receiver := .body 3 [1] }
       s.bank.link.receiver = .body 3 [1] ∧ ([1] : List Byte).length + 1 < 3)
    ∧ (let s := linked fun l => { l with receiver := .body 2 [1] }
       s.bank.link.receiver = .body 2 [1] ∧ ([1] : List Byte).length + 1 = 2)
    ∧ (linked fun l => { l with receiver := .check [1, 2] none }).bank.link.receiver = .check [1, 2] none := by
  decide +kernel

theorem witness_Receiver_crc :
    let p : List Byte := List.replicate 248 0
    let good := crcChars (crc16 (BitVec.ofNat 8 (p.length + 2) :: 0x0C :: 7 :: p))
    p.length ≤ 248
    ∧ (linked fun l => { l with receiver := .check (0x0C :: 7 :: p) (some (good.getD 0 0)) }).bank.link.receiver
        = .check (0x0C :: 7 :: p) (some (good.getD 0 0))
    ∧ [good.getD 0 0, good.getD 1 0] = crcChars (crc16 (BitVec.ofNat 8 (p.length + 2) :: 0x0C :: 7 :: p))
    ∧ [good.getD 0 0, good.getD 1 0 + 1] ≠ crcChars (crc16 (BitVec.ofNat 8 (p.length + 2) :: 0x0C :: 7 :: p)) := by
  intro p good
  refine ⟨Nat.le_of_eq List.length_replicate, rfl, rfl, ?_⟩
  have other : ∀ x : BitVec 8, x + 1 ≠ x := by
    intro x e
    have := congrArg BitVec.toNat e
    simp [BitVec.toNat_add] at this
    omega
  have h : ∀ c : BitVec 16, [(crcChars c).getD 0 0, (crcChars c).getD 1 0 + 1] ≠ crcChars c :=
    fun c e => other _ (List.cons.inj (List.cons.inj e).2).1
  exact h _

theorem witness_FramesSpellTheirCommands :
    (List.replicate 248 (0 : Byte)).length ≤ 248 ∧ State.reset.bank.link.receiver = .hunt := by decide +kernel

theorem witness_FramesSpellTheirCommands_lengths :
    (Instr.readBank 1 []).wellFormed = true ∧ (Instr.readBank 1 []).frame = some (frameChars 0x18 1 []) := ⟨by decide, rfl⟩

theorem witness_RequestsChecked_fullQueue :
    4 ≤ (linked fun l => { l with replies := List.replicate 4 someReply }).bank.link.replies.length := by decide +kernel

theorem witness_RequestsChecked :
    (idle.hasRoom ∧ (linked fun l => { l with replies := List.replicate 3 someReply }).hasRoom
      ∧ Req.lengthOk .hold [1] = false)
    ∧ (Req.lengthOk .hold [0, 1] = true ∧ Req.carriesTube .hold = true ∧ u8 [0, 1] 0 = 0 ∧ 4 < u8 [5, 1] 0)
    ∧ Req.hold ∉ [Req.configureZones, .configureChannels, .configureRail, .readSteps, .readTube]
    ∧ u8 [4, 1] 0 = lastTube.val + 1 ∧ (idle.bank.run lastTube).state = .unconfigured := by decide +kernel

theorem witness_RequestsChecked_unknownKinds :
    (isRequestKind 0 = false ∧ isRequestKind 0x80 = false ∧ (0 : Byte).toNat = 0 ∧ 0x80 ≤ (0x80 : Byte).toNat)
    ∧ (isRequestKind 0x1C = false ∧ isRequestKind 0x7F = false ∧ (0x1C : Byte).toNat ≠ 0 ∧ (0x7F : Byte).toNat ≤ 0x7F)
    ∧ 4 ≤ (linked fun l => { l with replies := List.replicate 4 someReply }).bank.link.replies.length ∧ idle.hasRoom := by
  decide +kernel

theorem witness_ReplyThenReports :
    (busy bank).link.sending = some [] ∧ (busy bank).link.sending.isSome
    ∧ bank.link.sending = none ∧ bank.link.replies = [] := by decide +kernel

theorem witness_ReportQueueTable :
    ({ Link.reset with reports := List.replicate 63 (atLevel 2) }).reports.length < 64
    ∧ (let l := { Link.reset with reports := List.replicate 2 (atLevel 7) ++ atLevel 6 :: List.replicate 61 (atLevel 1) }
       64 ≤ l.reports.length ∧ (atLevel 7).level = 7
         ∧ l.reports = List.replicate 2 (atLevel 7) ++ atLevel 6 :: List.replicate 61 (atLevel 1)
         ∧ (∀ x ∈ List.replicate 2 (atLevel 7), x.level = 7) ∧ (atLevel 6).level < 7)
    ∧ (let l := { Link.reset with reports := List.replicate 64 (atLevel 7) }
       64 ≤ l.reports.length ∧ (atLevel 6).level < 7 ∧ ∀ x ∈ l.reports, x.level = 7) := by decide +kernel

theorem witness_TransmitCompletes :
    idle.bank.link.sending = none
    ∧ (let l := { (busy bank).link with replies := [someReply] }
       l.sending = some [] ∧ l.replies = someReply :: [])
    ∧ (let l := { (busy bank).link with reports := [atLevel 2] }
       l.replies = [] ∧ l.reports = atLevel 2 :: [] ∧ l.lost = 0)
    ∧ (let l := { (busy bank).link with reports := List.replicate 64 (atLevel 2), lost := 3 }
       l.reports = atLevel 2 :: List.replicate 63 (atLevel 2) ∧ 62 < (List.replicate 63 (atLevel 2)).length)
    ∧ (let l := { (busy bank).link with reports := List.replicate 63 (atLevel 2), lost := 1 }
       l.reports = atLevel 2 :: List.replicate 62 (atLevel 2) ∧ 0 < l.lost
         ∧ (List.replicate 62 (atLevel 2)).length ≤ 62)
    ∧ (busy bank).link.replies = [] ∧ (busy bank).link.reports = [] := by decide +kernel

theorem witness_BankSettings :
    idle.hasRoom ∧ ([0] : List Byte).length = 1 ∧ u8 [0] 0 < 1 ∧ 7 < u8 [8] 0 ∧ 1 ≤ u8 [1] 0 ∧ u8 [7] 0 ≤ 7 := by
  decide +kernel

theorem witness_PowerAndTime :
    idle.hasRoom
    ∧ (∃ t, ((having (inState .running)).bank.run t).state = .running)
    ∧ (∃ t, ((having (paddled .stopping)).bank.boat t).paddle = .stopping)
    ∧ (∀ t, (idle.bank.run t).state ≠ .running ∧ (idle.bank.boat t).paddle ≠ .moving
      ∧ (idle.bank.boat t).paddle ≠ .stopping) := by decide +kernel

/-- ReadReadings, ReadBank and ReadInterlocks ask for room alone, and the first and third part of PowerAndTime for nothing. -/
theorem witness_ReadReadings : (linked fun l => { l with replies := List.replicate 3 someReply }).hasRoom := by
  decide +kernel
theorem witness_ReadBank : (linked fun l => { l with replies := List.replicate 3 someReply }).hasRoom := by decide +kernel
theorem witness_ReadInterlocks : (linked fun l => { l with replies := List.replicate 3 someReply }).hasRoom := by
  decide +kernel

theorem witness_ReadSteps :
    idle.takesTube [1, 64] 2 0 ∧ 63 < u8 [1, 64] 1 ∧ idle.takesTube [4, 63] 2 3 ∧ u8 [4, 63] 1 ≤ 63 := by decide +kernel

theorem witness_ReadTube :
    idle.takesTube [1, 5] 2 0 ∧ 4 < u8 [1, 5] 1 ∧ idle.takesTube [4, 4] 2 3
    ∧ [idle.bank.runBytes 3, idle.bank.holdsBytes 3, idle.bank.heatBytes 3, idle.bank.gasBytes 3, idle.bank.boatBytes 3][
        u8 [4, 4] 1]? = some (idle.bank.boatBytes 3) := by decide +kernel

/-- A HoldUnit with an empty stack and no source present is in order. -/
theorem witness_ordered : (idle.bank.hold 0).ordered :=
  ⟨by decide +kernel, by simp [idle, having, bank, tube, Bank.hold, Bank.tube, TubeState.reset, HoldUnit.reset],
    by decide +kernel, by decide +kernel, by decide +kernel, by decide +kernel⟩

/-- The seven characters of a record with duration `d` seconds, and one that fails its checks: M = 1 below D = 2. -/
def recordBytes (d : Byte) : List Byte := [0, d, 0, 0, 0, 0, 0]
def badBytes : List Byte := [0, 2, 0, 0, 1, 0, 0]
def goodRecord (d : Nat) : ParsedRecord := ⟨plain d 0, false⟩
def badRecord : ParsedRecord := ⟨plain 2 1, false⟩

theorem witness_StepList :
    (idle.hasRoom ∧ 3 ≤ ([1, 64, 0] : List Byte).length ∧ u8 [1, 64, 0] 0 = (0 : Tube).val + 1 ∧ idle.configured 0
      ∧ parseRecords (u8 [1, 64, 0] 2) (([1, 64, 0] : List Byte).drop 3) = some ([] ++ []) ∧ 63 < u8 [1, 64, 0] 1)
    ∧ (let p := ([1, 63, 1] : List Byte) ++ recordBytes 5
       parseRecords (u8 p 2) (p.drop 3) = some ([goodRecord 5] ++ []) ∧ u8 p 1 ≤ 63
         ∧ (idle.bank.run 0).loadStop (u8 p 1) (goodRecord 5) = none)
    ∧ (let p := ([1, 0, 2] : List Byte) ++ recordBytes 5 ++ badBytes
       parseRecords (u8 p 2) (p.drop 3) = some ([goodRecord 5] ++ badRecord :: [])
         ∧ (idle.bank.run 0).loadStop (u8 p 1) (goodRecord 5) = none
         ∧ (idle.bank.run 0).loadStop (u8 p 1 + 1) badRecord = some .badField)
    ∧ (let p := ([1, 0, 1] : List Byte) ++ recordBytes 5
       let s := having (running [⟨plain 1 0, 0⟩])
       parseRecords (u8 p 2) (p.drop 3) = some ([] ++ goodRecord 5 :: [])
         ∧ (s.bank.run 0).loadStop (u8 p 1 + 0) (goodRecord 5) = some .inUse) := by decide +kernel

/-- The record of slot 3 of the example of 11.5. -/
theorem witness_RecordsAreReadAsWritten :
    StepRecord.legal ⟨600, 0, some ⟨100000, 1000, none, 0, 0⟩, none, some [⟨1, 5000⟩, ⟨2, 8000⟩], none, none, none, false⟩ 63
      = true ∧ StepRecord.legal (plain 86400 172800) 0 = true := by decide +kernel

theorem witness_StepList_clear :
    (having (inState .running)).takesTube [1] 1 0 ∧ ((having (inState .running)).bank.run 0).state = .running
    ∧ idle.takesTube [4] 1 3 ∧ (idle.bank.run 3).state = .unconfigured
    ∧ (idle.bank.run 0).state = .idle ∧ ((having (inState .safe)).bank.run 0).state = .safe := by decide +kernel

/-- Tube 1 with a step in slot 63. -/
def lastFilled (b : Bank) : Bank := b.modRun 0 fun x => { x with slots := x.slots.set 63 (some ⟨plain 1 0, 0⟩) }

theorem witness_StartRun :
    (let s := having (inState .safe)
     s.takesTube [1, 0, 0] 3 0 ∧ (s.bank.run 0).state ≠ .idle)
    ∧ (let s := having (under [held .host 1 true])
       (s.bank.run 0).state = .idle ∧ (s.bank.hold 0).stack ≠ [])
    ∧ ((idle.bank.run 0).state = .idle ∧ (idle.bank.hold 0).stack = [] ∧ 63 < u8 [1, 64, 0] 1
      ∧ 63 < u8 [1, 0, 64] 2 ∧ u8 [1, 0, 64] 2 ≠ 0xFF
      ∧ ∃ i : Slot, i.val = u8 [1, 63, 0] 1 ∧ (idle.bank.run 0).slots[i] = none)
    ∧ (let s := having fun b => paddled .unlocated (lastFilled b)
       (63 : Slot).val = u8 [1, 63, 63] 1 ∧ u8 [1, 63, 63] 2 ≤ 63 ∧ u8 [1, 63, 255] 2 = 0xFF
         ∧ (s.bank.run 0).slots[63] ≠ none ∧ (s.bank.boat 0).paddle = .unlocated)
    ∧ ((having fun b => paddled .stopping (lastFilled b)).bank.boat 0).paddle = .stopping
    ∧ (let s := having lastFilled
       s.takesTube [1, 63, 63] 3 0 ∧ (s.bank.boat 0).paddle = .stopped
         ∧ (s.bank.run 0).slots[63] = some ⟨plain 1 0, 0⟩ ∧ (plain 1 0).gas = none ∧ (plain 1 0).motion = none
         ∧ (s.bank.boat 0).order = none ∧ (s.bank.run 0).stepTime = false)
    ∧ (let s := having fun b => (lastFilled b).modBoat 0 fun x => { x with order := some ⟨.host, 500, 300, none, false⟩ }
       (s.bank.boat 0).order = some ⟨.host, 500, 300, none, false⟩ ∧ (s.bank.boat 0).unlocWaiting = false
         ∧ (s.bank.boat 0).motion = false) := by decide +kernel

/-- Tube 1 RUNNING with an abort index 63 that holds a record. -/
def abortable (b : Bank) : Bank :=
  (running [⟨plain 1 0, 0⟩] (lastFilled b)).modRun 0 fun x => { x with
    abortIndex := some 63, slots := x.slots.set 63 (some ⟨plain 1 0, 0⟩) }

theorem witness_AbortRun :
    (idle.takesTube [1] 1 0 ∧ (idle.bank.run 0).state ≠ .running)
    ∧ (let s := having abortable
       s.takesTube [1] 1 0 ∧ (s.bank.run 0).state = .running ∧ (s.bank.hold 0).stack = [] ∧ (s.bank.hold 0).pending = []
         ∧ (s.bank.hold 0).published = 0 ∧ (s.bank.boat 0).unlocWaiting = false
         ∧ ((s.bank.boat 0).motion = true ↔ (s.bank.boat 0).paddle = .fault) ∧ (s.bank.run 0).abortPath = false
         ∧ (s.bank.run 0).abortIndex = some 63 ∧ (s.bank.run 0).slots[63] = some ⟨plain 1 0, 0⟩)
    ∧ (let s := having fun b => (abortable b).modRun 0 fun x => { x with abortPath := true }
       (s.bank.run 0).state = .running ∧ (s.bank.run 0).abortPath = true)
    ∧ (let s := having (running [⟨plain 1 0, 0⟩])
       (s.bank.run 0).abortIndex = none)
    ∧ (let s := having fun b => (running [⟨plain 1 0, 0⟩] b).modRun 0 fun x => { x with abortIndex := some 63 }
       ∃ i, (s.bank.run 0).abortIndex = some i ∧ (s.bank.run 0).slots[i] = none) := by
  refine ⟨by decide +kernel, by decide +kernel, by decide +kernel, by decide +kernel, 63, ?_⟩
  decide +kernel

/-- A run under a hold with a pending entry, whose abort path is open once the frames and entries are discarded, and the
same without an abort index; a paddle in FAULT tells MOTION. -/
theorem witness_AbortRun_held :
    (let s := having fun b => withEntry .host 2 true (under [held .gasFlow 3 true] (abortable b))
     let b := publish 0 ((s.bank.hunting.abandonStep publish 0).emptyHolds 0 .abort)
     s.takesTube [1] 1 0 ∧ (s.bank.run 0).state = .running ∧ (s.bank.hold 0).stack ≠ [] ∧ (s.bank.hold 0).pending ≠ []
       ∧ (b.run 0).abortPath = false ∧ (b.run 0).abortIndex = some 63 ∧ (b.run 0).slots[63] = some ⟨plain 1 0, 0⟩)
    ∧ (let s := having fun b => under [held .gasFlow 3 true] (running [⟨plain 60 0, 0⟩] b)
       let b := publish 0 ((s.bank.hunting.abandonStep publish 0).emptyHolds 0 .abort)
       (s.bank.hold 0).stack ≠ [] ∧ (b.run 0).abortIndex = none)
    ∧ (let x := (paddled .fault (abortable bank) |>.modBoat 0 fun x => { x with motion := true }).boat 0
       x.paddle = .fault ∧ x.motion = true) := by decide +kernel

/-- Tube 1 in SAFE under OVERTEMP at 7, its condition present or cleared. -/
def safed (present : Bool) (b : Bank) : Bank := under [held .overtemp 7 present] (inState .safe b)

theorem witness_ResetTube :
    (idle.takesTube [1] 1 0 ∧ (idle.bank.run 0).state ≠ .safe)
    ∧ (let s := having (safed true)
       (s.bank.run 0).state = .safe
         ∧ ∃ x ∈ (s.bank.hold 0).level7, x ≠ .hostAbort ∧ ((s.bank.hold 0).sourceRecord x).present = true)
    ∧ (let s := having (safed false)
       (s.bank.run 0).state = .safe ∧ (s.bank.run 0).hostAbort = false
         ∧ (∀ i : Fin 12, (s.bank.hold 0).records[i].present = false) ∧ (s.bank.hold 0).published = 7
         ∧ (s.bank.ramp 0).lag = false ∧ (s.bank.boat 0).order = none ∧ (s.bank.boat 0).paddle ≠ .stopping)
    ∧ (having (safed false)).bank.idling 0 := by
  refine ⟨by decide +kernel, by decide +kernel, by decide +kernel, by decide +kernel, ?_, by decide +kernel⟩
  decide +kernel

/-- HOST_ABORT stands where the Run Engine's condition does. -/
theorem witness_ResetTube_hostAbort :
    let s := having fun b => (under [held .hostAbort 7 true] (inState .safe b)).modRun 0 fun x => { x with hostAbort := true }
    ∃ x ∈ (s.bank.hold 0).level7, x = .hostAbort ∧ (s.bank.run 0).hostAbort = true := by decide +kernel

/-- Two standing sources beside a cleared level-7 member: the tube is reset with both to be presented again. -/
def standing (b : Bank) : Bank := (safed false b).modHold 0 fun h =>
  (h.setRecord .gasFlow ⟨true, 3⟩).setRecord .tc ⟨true, 5⟩

theorem witness_ResetTube_standing :
    (let s := having standing
     s.takesTube [1] 1 0 ∧ (s.bank.run 0).state = .safe
       ∧ ∀ x ∈ (s.bank.hold 0).level7, x ≠ .hostAbort ∧ ((s.bank.hold 0).sourceRecord x).present = false)
    ∧ (let b := (standing bank).modHold 0 fun h => { h with stack := [], window := false }
       (b.hold 0).stack = [] ∧ (b.hold 0).pending = [] ∧ (b.hold 0).window = false
         ∧ (∀ i : Fin 12, (b.hold 0).records[i].present = true → 1 ≤ (b.hold 0).records[i].level ∧ (b.hold 0).records[i].level ≤ 6)
         ∧ (([6, 5, 4, 3, 2, 1] : List Nat).flatMap fun L => allSources.filter fun x =>
           ((b.hold 0).sourceRecord x).present = true ∧ ((b.hold 0).sourceRecord x).level = L) = .tc :: [.gasFlow])
    ∧ (([6, 5, 4, 3, 2, 1] : List Nat).flatMap fun L => allSources.filter fun x =>
        ((bank.hold 0).sourceRecord x).present = true ∧ ((bank.hold 0).sourceRecord x).level = L) = [] := by decide +kernel

theorem of_none {α : Type} {P : α → Prop} {o : Option α} (h : o = none) : ∀ e, o = some e → P e := by
  intro e he; rw [h] at he; cases he
theorem of_some {α : Type} {P : α → Prop} {o : Option α} {a : α} (h : o = some a) (ha : P a) : ∀ e, o = some e → P e := by
  intro e he; rw [h] at he; cases he; exact ha

/-- Tube 1 with its door-zone window open. -/
def opened (b : Bank) : Bank := b.modHold 0 fun h => { h with window := true }

theorem witness_RaiseDecision :
    (Source.gasFlow.recordIx = some 2 ∧ Source.ilk0.recordIx = some 7 ∧ (bank.hold 0).level ≤ 7)
    ∧ (∃ f ∈ ((under [held .gasFlow 3 false] bank).hold 0).stack, f.source = .gasFlow ∧ f.level = 3)
    ∧ (let b := under [held .overtemp 7 true] bank
       (¬ ∃ f ∈ (b.hold 0).stack, f.source = .ilk0 ∧ f.level = 7) ∧ (b.hold 0).level = 7 ∧ (b.hold 0).level ≤ 7)
    ∧ (let b := opened (under [held .host 5 true] bank)
       (¬ ∃ f ∈ (b.hold 0).stack, f.source = .gasFlow ∧ f.level = 6) ∧ (b.hold 0).level < 6 ∧ (6 : Nat) ≤ 6)
    ∧ ((¬ ∃ f ∈ (bank.hold 0).stack, f.source = .gasFlow ∧ f.level = 1) ∧ (bank.hold 0).level < 1
      ∧ (bank.hold 0).window = false)
    ∧ (let b := withEntry .gasFlow 2 true (under [held .host 3 true] bank)
       (¬ ∃ f ∈ (b.hold 0).stack, f.source = .gasFlow ∧ f.level = 3) ∧ 3 ≤ (b.hold 0).level
         ∧ (b.hold 0).entry .gasFlow = some ⟨.gasFlow, 2, 5000, true⟩)
    ∧ (let b := opened (withEntry .gasFlow 5 true bank)
       (b.hold 0).window = true ∧ (b.hold 0).entry .gasFlow = some ⟨.gasFlow, 5, 5000, true⟩)
    ∧ (let b := opened (withEntry .gasFlow 5 false bank)
       ∀ e, (b.hold 0).entry .gasFlow = some e → e.present = false)
    ∧ ∀ e, ((opened bank).hold 0).entry .gasFlow = some e → e.present = false := by
  refine ⟨by decide +kernel, by decide +kernel, by decide +kernel, by decide +kernel, by decide +kernel, by decide +kernel,
    by decide +kernel, of_some (a := ⟨.gasFlow, 5, 5000, false⟩) (by decide +kernel) rfl, of_none (by decide +kernel)⟩

theorem witness_Hold :
    (idle.takesTube [1, 0] 2 0 ∧ idle.configured 0 ∧ u8 [1, 0] 1 < 1 ∧ 6 < u8 [1, 7] 1)
    ∧ (let s := having (under [held .host 6 true])
       s.takesTube [1, 6] 2 0 ∧ s.configured 0 ∧ 6 = u8 [1, 6] 1 ∧ (s.bank.hold 0).level ≤ 7
         ∧ ∃ f ∈ (s.bank.hold 0).stack, f.source = .host ∧ f.level = 6)
    ∧ (let s := having fun b => opened (under [held .tc 5 true] b)
       (¬ ∃ f ∈ (s.bank.hold 0).stack, f.source = .host ∧ f.level = 6) ∧ (s.bank.hold 0).level < 6)
    ∧ ((¬ ∃ f ∈ (idle.bank.hold 0).stack, f.source = .host ∧ f.level = 1) ∧ (idle.bank.hold 0).level < 1
      ∧ (idle.bank.hold 0).window = false ∧ 1 = u8 [1, 1] 1)
    ∧ (let s := having (under [held .overtemp 7 true])
       (¬ ∃ f ∈ (s.bank.hold 0).stack, f.source = .host ∧ f.level = 6) ∧ 6 ≤ (s.bank.hold 0).level
         ∧ (s.bank.hold 0).entry .host = none)
    ∧ (let s := having fun b => opened (withEntry .host 4 true b)
       (¬ ∃ f ∈ (s.bank.hold 0).stack, f.source = .host ∧ f.level = 5) ∧ (s.bank.hold 0).window = true
         ∧ (s.bank.hold 0).entry .host = some ⟨.host, 4, 5000, true⟩ ∧ 5 = u8 [1, 5] 1 ∧ 4 = u8 [1, 4] 1) := by
  decide +kernel

theorem witness_Release :
    (idle.takesTube [1, 0] 2 0 ∧ idle.configured 0 ∧ u8 [1, 0] 1 < 1 ∧ 7 < u8 [1, 8] 1)
    ∧ (let s := having (under [held .overtemp 7 false])
       (s.bank.hold 0).stack = held .overtemp 7 false :: [] ∧ 7 = u8 [1, 7] 1)
    ∧ (let s := having (under [held .gate 6 true, held .host 1 true])
       (s.bank.hold 0).stack = held .gate 6 true :: [held .host 1 true] ∧ 6 = u8 [1, 6] 1)
    ∧ (let s := having (under [held .gate 6 false])
       (s.bank.hold 0).stack = held .gate 6 false :: [])
    ∧ (let s := having (under [held .host 1 true])
       (s.bank.hold 0).stack = held .host 1 true :: [] ∧ 1 = u8 [1, 1] 1)
    ∧ (let s := having fun b => withEntry .host 2 true (under [held .tc 5 true] b)
       (∀ f rest, (s.bank.hold 0).stack = f :: rest → f.level ≠ 2)
         ∧ (s.bank.hold 0).entry .host = some ⟨.host, 2, 5000, true⟩)
    ∧ (let s := having (withEntry .host 2 true)
       (∀ f rest, (s.bank.hold 0).stack = f :: rest → f.level ≠ 7)
         ∧ ∀ e, (s.bank.hold 0).entry .host = some e → e.level ≠ 7) := by
  refine ⟨by decide +kernel, by decide +kernel, by decide +kernel, by decide +kernel, by decide +kernel, ⟨?_, by decide +kernel⟩,
    ?_, of_some (a := ⟨.host, 2, 5000, true⟩) (by decide +kernel) (by decide)⟩
  · intro f rest h
    have : f = held .tc 5 true := (List.cons.inj (h.symm.trans
      (by decide +kernel : _ = held .tc 5 true :: ([] : List Frame)))).1
    subst this; decide
  · intro f rest h
    exact absurd (h.symm.trans (by decide +kernel : _ = ([] : List Frame))) (by simp)

/-- Two entries ask level 5, one of them cleared, and one asks 2; the present one of level 5 is taken on an empty stack. -/
theorem witness_Release_reexamination :
    (let b := withEntry .gasFlow 3 false bank
     ∀ e ∈ (b.hold 0).pending, e.present = false)
    ∧ (let b := bank.modHold 0 fun h => { h with
         pending := [⟨.host, 2, 5000, true⟩, ⟨.tc, 5, 5000, false⟩, ⟨.motion, 5, 5000, true⟩] }
       let e : PendingEntry := ⟨.motion, 5, 5000, true⟩
       e ∈ (b.hold 0).pending ∧ e.present = true ∧ 1 ≤ e.level ∧ e.level ≤ 6
         ∧ ((b.hold 0).pending.map (·.source.code)).Pairwise (· < ·)
         ∧ (∀ y ∈ (b.hold 0).pending, y.present = true →
           y.level < e.level ∨ (y.level = e.level ∧ e.source.code ≤ y.source.code))
         ∧ (b.hold 0).level < e.level ∧ (b.hold 0).window = false)
    ∧ ((opened bank).hold 0).window = true ∧ 6 ≤ ((under [held .gate 6 true] bank).hold 0).level := by decide +kernel

/-! ### What a published level does -/

/-- Tube 1 with a frame of a level on top, not yet published. -/
def asked (L : Nat) (b : Bank) : Bank := b.modHold 0 fun h => { h with stack := [held .ilk0 L true] }
/-- Tube 1 with a level published and none on the stack. -/
def released (old : Nat) (b : Bank) : Bank := b.modHold 0 fun h => { h with published := old }
/-- A gas part: nitrogen 5000 on channel 1, oxygen 8000 on channel 2. -/
def gasPart : List GasEntry := [⟨1, 5000⟩, ⟨2, 8000⟩]
/-- Tube 1 RUNNING a step with that gas part, in a phase. -/
def gassed (x : Phase) (b : Bank) : Bank :=
  (running [⟨{ plain 60 0 with gas := some gasPart }, 0⟩] b).modRun 0 fun y => { y with phase := x }

theorem witness_LevelResponses :
    (let b := asked 6 bank
     b.calm 0 ∧ (b.hold 0).level ≤ 6 ∧ (b.hold 0).level ≠ (b.hold 0).published ∧ 5 ≤ (b.hold 0).level)
    ∧ (let b := asked 3 bank
       b.calm 0 ∧ (b.hold 0).level ≠ (b.hold 0).published ∧ 3 ≤ (b.hold 0).level ∧ (b.hold 0).level ≤ 4)
    ∧ (let b := released 2 (gassed .active bank)
       b.calm 0 ∧ (b.hold 0).level < 3 ∧ (b.hold 0).level ≠ (b.hold 0).published ∧ ¬ 3 ≤ (b.hold 0).published)
    ∧ (let b := released 3 (gassed .active bank)
       b.calm 0 ∧ (b.hold 0).level < 3 ∧ 3 ≤ (b.hold 0).published ∧ (b.run 0).state = .running ∧ (b.run 0).phase = .active
         ∧ ((b.run 0).step.bind fun i => (b.run 0).slots[i].bind fun c => c.record.gas) ≠ none)
    ∧ (let b := released 3 (gassed .waitGas bank)
       b.calm 0 ∧ (b.run 0).phase = .waitGas ∧ b.supply.waits 0 = false ∧ (b.run 0).activated = true)
    ∧ (let b := released 3 ((gassed .waitGas bank).modRun 0 fun x => { x with activated := false })
       b.calm 0 ∧ (b.hold 0).level < 3 ∧ 3 ≤ (b.hold 0).published ∧ (b.run 0).state = .running ∧ (b.run 0).phase = .waitGas
         ∧ b.supply.waits 0 = false ∧ (b.run 0).activated = false) := by
  unfold Bank.calm; decide +kernel

theorem witness_SafeEntry :
    (let b := asked 7 bank
     (b.tube 0).zonesConfig = some zones ∧ (b.run 0).state = .idle ∧ (b.hold 0).level = 7 ∧ (b.hold 0).published ≠ 7
       ∧ ((b.hold 0).window = true → (b.hold 0).pending = []) ∧ b.calm 0 ∧ (b.boat 0).sealStands = (b.gate 0).sealed
       ∧ (b.boat 0).paddle = .stopped ∧ ((b.boat 0).motion = true ↔ (b.boat 0).paddle = .fault))
    ∧ (let b := asked 7 (travelling 600 11500 14000 (gassed .waitGas bank))
       (b.run 0).state = .running ∧ (b.hold 0).level = 7 ∧ (b.hold 0).window = true ∧ (b.hold 0).pending = [] ∧ b.calm 0
         ∧ Boat.sealStands { b.boat 0 with paddle := .stopped } = (b.gate 0).sealed
         ∧ ((b.boat 0).motion = true ↔ (b.boat 0).paddle = .fault)) := by
  unfold Bank.calm; decide +kernel

/-- Tube 1 with its paddle STOPPING from `p` at `q` under an order to `g`. -/
def halting (p q g : Nat) (b : Bank) : Bank := (travelling p q g b).modBoat 0 fun x => { x with paddle := .stopping }

theorem witness_BoatResponses :
    (let x := (travelling 600 700 3000 bank).boat 0
     x.paddle = .moving ∧ x.locate = none)
    ∧ ((bank.boat 0).paddle ≠ .moving ∧ (bank.boat 0).paddle ≠ .stopping)
    ∧ (let x := ((halting 600 700 3000 bank).modBoat 0 fun x => { x with stopping := some ⟨1000, .step, none, 3000⟩ }).boat 0
       x.paddle = .stopping ∧ x.stopping ≠ none)
    ∧ (let b := halting 600 700 3000 bank
       (b.boat 0).paddle = .stopping ∧ (b.boat 0).stopping = none ∧ (b.boat 0).rail = some rail
         ∧ (b.boat 0).travel = some ⟨true, 600, 3000, 300, 150, []⟩ ∧ (b.boat 0).position = some 700
         ∧ 0 < min 300 (b.boat 0).table[b.speedBand 0])
    ∧ (let b := (halting 600 700 3000 bank).modBoat 0 fun x => { x with table := Vector.replicate 16 0 }
       min 300 (b.boat 0).table[b.speedBand 0] = 0)
    ∧ (let b := (travelling 600 11500 14000 bank).modHold 0 fun h => { h with window := false }
       ((b.boat 0).paddle = .moving ∧ (b.boat 0).rail = some rail ∧ (b.boat 0).position = some 11500 ∧ rail.doorZone ≤ 11500
         ∧ 11500 ≤ rail.inPos) ∧ (b.hold 0).window = false)
    ∧ (let b := opened bank
       (b.boat 0).paddle = .stopped ∧ (b.hold 0).window = true)
    ∧ (((bank.boat 0).paddle ≠ .fault ∧ (bank.boat 0).unlocWaiting = false ∧ (bank.boat 0).motion = false)
      ∧ (let x := (paddled .fault bank).boat 0
         x.paddle = .fault ∧ x.motion = false)
      ∧ (let x := (bank.modBoat 0 fun x => { x with motion := true }).boat 0
         x.paddle ≠ .fault ∧ x.unlocWaiting = false ∧ x.motion = true)) := by decide +kernel

theorem witness_RampStarts :
    ((bank.tube 0).zonesConfig = some zones ∧ (bank.ramp 0).lag = false
      ∧ (bank.run 0).state = .idle ∧ (bank.hold 0).stack = [] ∧ (RampOrder.rate ⟨.idle, 0, 0, #v[0, 0, 0], 0, 0⟩) = 0)
    ∧ (let b := running [⟨plain 1 0, 0⟩] bank
       (b.run 0).state = .running ∧ (b.run 0).phase = .active ∧ (b.hold 0).stack = [])
    ∧ ((inState .safe (under [held .overtemp 7 true] bank)).run 0).state = .safe
    ∧ (RampOrder.rate ⟨.idle, 140000, 3000, #v[5000, 0, -5000], 0, 0⟩) ≠ 0
    ∧ (let b := under [held .host 1 true] bank
       (b.tube 0).zonesConfig = some zones ∧ (b.ramp 0).lag = false
         ∧ ¬ (((b.run 0).state = .running ∧ (b.run 0).phase = .active ∧ (b.hold 0).stack = [])
           ∨ ((b.run 0).state = .idle ∧ (b.hold 0).stack = []) ∨ (b.run 0).state = .safe))
    ∧ (let b := bank.modRamp 0 fun r => { r with lag := true }
       (b.tube 0).zonesConfig = some zones ∧ (b.ramp 0).lag = true ∧ (b.run 0).state = .idle
         ∧ (b.hold 0).stack = []) := by decide +kernel

theorem witness_SetIdleTemperature :
    (let s := having (inState .safe)
     s.takesTube [1, 0, 0, 0, 0, 0] 6 0 ∧ (s.bank.run 0).state ≠ .idle)
    ∧ ((idle.bank.run 0).state = .idle ∧ s24 [1, 0xFF, 0xFF, 0xFF, 0, 0] 1 < 0 ∧ 140000 < s24 [1, 0xE1, 0x22, 2, 0, 0] 1
      ∧ 3000 < u16 [1, 0, 0, 0, 0xB9, 0x0B] 4)
    ∧ (0 ≤ s24 [1, 0xE0, 0x22, 2, 0xB8, 0x0B] 1 ∧ s24 [1, 0xE0, 0x22, 2, 0xB8, 0x0B] 1 ≤ 140000
      ∧ u16 [1, 0xE0, 0x22, 2, 0xB8, 0x0B] 4 ≤ 3000 ∧ s24 [1, 0, 0, 0, 0, 0] 1 = 0) := by decide +kernel

/-- Tube 1 with a ramp of some rate, band and lag limit in progress toward 100000, its zones reading 89000 at setpoint 89300,
RAMP_LAG present or not. -/
def ramping (rate : Nat) (band : Int) (limit timer : Nat) (lag : Bool) (b : Bank) : Bank := b.modRamp 0 fun r => { r with
  kind := .idle, inProgress := true, rate := rate, band := band, lagLimit := limit, lagTimer := timer, lag := lag
  zones := Vector.replicate 3 ⟨89300 * 65536, 0, 100000, false⟩ }

/-- The control readings lie within 300 of the setpoints and not within 299. -/
theorem witness_RampExpiry :
    ((idle.bank.tube 3).zonesConfig = none ∧ idle.bank.expiringPeriod 0 = some 1024 ∧ (idle.bank.ramp 0).inProgress = false)
    ∧ (let s := having (ramping 0 0 0 0 false)
       (s.bank.ramp 0).inProgress = true ∧ (s.bank.run 0).state = .idle ∧ (s.bank.hold 0).stack = []
         ∧ (s.bank.ramp 0).rate = 0)
    ∧ (let s := having (ramping 0 300 20 20480 true)
       (s.bank.ramp 0).inProgress = true ∧ (s.bank.ramp 0).lag = true ∧ (s.bank.run 0).state = .idle
         ∧ (s.bank.hold 0).stack = [] ∧ (s.bank.ramp 0).rate = 0)
    ∧ (let s := having (ramping 600 300 20 1024 false)
       (s.bank.ramp 0).rate ≠ 0 ∧ 0 < (s.bank.ramp 0).band ∧ ∀ z, (s.bank.control 0 z).status = .good →
         (s.bank.control 0 z).value - ((s.bank.ramp 0).zones[z].accumulator + 32768) / 65536 ≤ (s.bank.ramp 0).band
          ∧ ((s.bank.ramp 0).zones[z].accumulator + 32768) / 65536 - (s.bank.control 0 z).value ≤ (s.bank.ramp 0).band)
    ∧ ((having (ramping 600 0 0 0 false)).bank.ramp 0).band ≤ 0
    ∧ (let s := having (ramping 600 299 20 19456 false)
       0 < (s.bank.ramp 0).band ∧ (s.bank.ramp 0).lag = false
         ∧ ¬ (∀ z, (s.bank.control 0 z).status = .good →
           (s.bank.control 0 z).value - ((s.bank.ramp 0).zones[z].accumulator + 32768) / 65536 ≤ (s.bank.ramp 0).band
            ∧ ((s.bank.ramp 0).zones[z].accumulator + 32768) / 65536 - (s.bank.control 0 z).value ≤ (s.bank.ramp 0).band)
         ∧ (s.bank.ramp 0).lagLimit ≠ 0 ∧ (s.bank.ramp 0).lagLimit * 1024 ≤ min ((s.bank.ramp 0).lagTimer + 1024) 4294967295)
    ∧ (let s := having (ramping 600 299 20 19455 false)
       min ((s.bank.ramp 0).lagTimer + 1024) 4294967295 < (s.bank.ramp 0).lagLimit * 1024)
    ∧ ((having (ramping 600 299 0 0 false)).bank.ramp 0).lagLimit = 0
    ∧ ((having (ramping 600 299 20 20480 true)).bank.ramp 0).lag = true
    ∧ (let s := having fun b => ramping 600 300 20 20480 true (under [held .rampLag 4 true] b)
       (s.bank.ramp 0).inProgress = true ∧ 0 < (s.bank.ramp 0).band ∧ (s.bank.ramp 0).lag = true
         ∧ ¬ (((s.bank.run 0).state = .running ∧ (s.bank.run 0).phase = .active ∧ (s.bank.hold 0).stack = [])
           ∨ ((s.bank.run 0).state = .idle ∧ (s.bank.hold 0).stack = []) ∨ (s.bank.run 0).state = .safe)
         ∧ ∀ z, (s.bank.control 0 z).status = .good →
           (s.bank.control 0 z).value - ((s.bank.ramp 0).zones[z].accumulator + 32768) / 65536 ≤ (s.bank.ramp 0).band
            ∧ ((s.bank.ramp 0).zones[z].accumulator + 32768) / 65536 - (s.bank.control 0 z).value ≤ (s.bank.ramp 0).band)
    ∧ (let s := having fun b => ramping 600 0 0 0 false (under [held .host 1 true] b)
       (s.bank.ramp 0).inProgress = true ∧ (s.bank.ramp 0).band ≤ 0 ∧ (s.bank.hold 0).stack ≠ []) := by decide +kernel

/-- A payload of CONFIGURE ZONES for tube 1: P, and for each zone a maximum setpoint of 140000 and an overtemperature limit
whose low character is `l` (140000 at 0xE0, 140001 at 0xE1). -/
def zonesPayload (l : Byte) : List Byte :=
  [1, 0, 1, 0xE0, 0x22, 2, 0xB8, 0x0B] ++ (List.replicate 3 ([0xE0, 0x22, 2, 0, 1, 0, 1, 0xFF, 0xFF, 0x99, 0x19, l, 0x22, 2]
    : List Byte)).flatten

theorem witness_ConfigureZones :
    ((having (inState .running)).takesTube (zonesPayload 0xE1) 50 0 ∧ ((having (inState .running)).bank.run 0).state = .running)
    ∧ (idle.takesTube (zonesPayload 0xE0) 50 0 ∧ (idle.bank.run 0).state ≠ .running
      ∧ ¬ s24 (zonesPayload 0xE0) 8 < s24 (zonesPayload 0xE0) 19)
    ∧ (let p := zonesPayload 0xE1
       u16 p 1 = 256 ∧ 0 ≤ s24 p 3 ∧ s24 p 3 ≤ 140000 ∧ u16 p 6 ≤ 3000
         ∧ ∀ i ∈ [8, 22, 36], 0 ≤ s24 p i ∧ s24 p i ≤ 140000 ∧ u16 p (i + 9) ≤ 6553 ∧ 1000 ≤ s24 p (i + 11)
           ∧ s24 p (i + 11) ≤ 150000 ∧ s24 p i < s24 p (i + 11))
    ∧ (∀ z : Zone, (idle.bank.loops 0)[z].overtemp = false ∧ (idle.bank.loops 0)[z].failed = false
      ∧ (idle.bank.overtemp 0 z).status = .good ∧ (idle.bank.overtemp 0 z).value ≤ 140001 - 1000)
    ∧ ((having (inState .safe)).bank.run 0).state = .safe := by decide +kernel

/-- The third request, at a level below 7 and at 7, the control channels good and one of them failed; and the overtemperature
limits of 140001, exceeded by a reading and left behind by one. -/
theorem witness_ConfigureZones_third :
    (let b := inState .unconfigured bank
     (b.run 0).state = .unconfigured ∧ (b.tube 0).marks = (true, true, true) ∧ (b.tube 0).zonesConfig = some zones
       ∧ (b.hold 0).level ≠ 7 ∧ ∀ z, (b.control 0 z).bad ≠ 4)
    ∧ (let b := inState .unconfigured (under [held .ilk0 7 true] bank)
       (b.hold 0).level = 7)
    ∧ (let b := { bank with scanner := { bank.scanner with records := bank.scanner.records.set 1 ⟨89000, .opened, 4, none⟩ } }
       ∃ z, (b.control 0 z).bad = 4)
    ∧ ¬ ((bank.run 0).state = .unconfigured ∧ (bank.tube 0).marks = (true, true, true))
    ∧ (let s := having fun b => { b with scanner := { b.scanner with records := b.scanner.records.set 2 (reading 140002) } }
       s24 (zonesPayload 0xE1) 19 = 140001 ∧ 140001 < (s.bank.overtemp 0 0).value ∧ (s.bank.overtemp 0 0).status = .good
         ∧ ∀ z : Zone, (s.bank.loops 0)[z].overtemp = false ∧ (s.bank.loops 0)[z].failed = false)
    ∧ (let s := having fun b => b.modLoops 0 fun v => v.set 2 ⟨0, 0, false, true, true, false, 0⟩
       (s.bank.loops 0)[(2 : Zone)].overtemp = true
         ∧ ∀ z, (s.bank.overtemp 0 z).status = .good ∧ (s.bank.overtemp 0 z).value ≤ 140001 - 1000) := by decide +kernel

theorem witness_ZoneLoopExpiry :
    (idle.bank.tube 3).zonesConfig = none ∧ (idle.bank.tube 0).zonesConfig = some zones := by decide +kernel

theorem witness_SetPowerLimit :
    (idle.hasRoom ∧ ([0, 0] : List Byte).length = 2 ∧ (sumTubes fun u => (idle.bank.share u).grant) ≤ u16 [0, 0] 0)
    ∧ (let s := having fun b => b.modShare 0 fun _ => ⟨1, 1, false⟩
       u16 [0, 0] 0 < sumTubes fun u => (s.bank.share u).grant) := by decide +kernel

/-- A tube that waits for oxygen on line 2, beside its present nitrogen. -/
def queued (t : Tube) (flow : Nat) (b : Bank) : Bank := b.modSupply fun x => { x with waiters :=
  x.waiters ++ [⟨t, .step, #v[2000, flow, 0, 0, 0, 0], #v[2000, 0, flow, 0, 0, 0, 0, 0], [2]⟩] }

/-- A payload of CONFIGURE CHANNELS for tube 1: floor `f`, channel 1 the purge channel on code 0, full scale 10000. -/
def channelsPayload (f : Byte) (flag : Byte) : List Byte :=
  [1, f, 0, 0, 0, 0, 0] ++ ([0, 0x10, 0x27, 10, 0, flag] : List Byte)
    ++ (List.replicate 5 ([1, 0x10, 0x27, 0xF4, 1, 0] : List Byte)).flatten

theorem witness_ConfigureChannels :
    ((having (inState .running)).takesTube (channelsPayload 100 1) 43 0
      ∧ ((having (inState .running)).bank.run 0).state = .running)
    ∧ (idle.takesTube (channelsPayload 100 0) 43 0 ∧ (idle.bank.run 0).state ≠ .running
      ∧ ∀ k : Channel, u8 (channelsPayload 100 0) (12 + 6 * k.val) ≠ 1)
    ∧ (let p := channelsPayload 100 1
       u16 p 1 ≤ 5000 ∧ u32 p 3 ≤ 2000000000
         ∧ (∀ c : Channel, u8 p (7 + 6 * c.val) ≤ 15 ∧ 10 ≤ u16 p (8 + 6 * c.val) ∧ u16 p (8 + 6 * c.val) ≤ 30000
           ∧ 10 ≤ u16 p (10 + 6 * c.val) ∧ u16 p (10 + 6 * c.val) ≤ 500 ∧ u8 p (12 + 6 * c.val) ≤ 1)
         ∧ u8 p 12 = 1 ∧ (∀ c : Channel, u8 p (12 + 6 * c.val) = 1 → c = 0) ∧ u16 p 1 ≤ u16 p 8
         ∧ (0 : GasCode).val = u8 p 7 ∧ idle.bank.gasMap[(0 : GasCode)] = ⟨some 0, .inert⟩)
    ∧ (let s := having fun b => b.modSupply fun x => { x with limits := x.limits.set 0 4099 }
       s.bank.supply.limits[(0 : Line)] < 100 + sumTubes fun u => if u = 0 then 0 else s.bank.supply.allocated u 0)
    ∧ (let s := having fun b => b.modSupply fun x => { x with limits := x.limits.set 0 4100 }
       100 + (sumTubes fun u => if u = 0 then 0 else s.bank.supply.allocated u 0) ≤ s.bank.supply.limits[(0 : Line)]
         ∧ (s.bank.run 0).state ≠ .running)
    ∧ (let s := having (inState .unconfigured)
       s.takesTube (channelsPayload 100 1) 43 0 ∧ (s.bank.run 0).state ≠ .running ∧ (s.bank.tube 0).marks = (true, true, true))
    ∧ (let s := having (queued 0 20000)
       s.bank.supply.waits 0 = true) := by decide +kernel

theorem witness_SetGasMap :
    (idle.hasRoom ∧ 2 ≤ ([16, 0] : List Byte).length ∧ ([16, 0] : List Byte).length = 2 + 2 * u8 [16, 0] 1
      ∧ 15 < u8 [16, 0] 0)
    ∧ (let p : List Byte := [15, 1, 7, 0x03]
       p.length = 2 + 2 * u8 p 1 ∧ u8 p 0 ≤ 15
         ∧ (List.range (u8 p 1)).map (fun k => (u8 p (2 + 2 * k), u8 p (3 + 2 * k))) = [(7, 3)] ++ []
         ∧ idle.bank.mapStop (u8 p 0 + 0) (7, 3) = none
         ∧ ∀ t, ∀ c : Channel, ((idle.bank.gas t).config.all fun g => decide (g.channels[c].code.val < u8 p 0)) = true)
    ∧ (let p : List Byte := [15, 2, 7, 0x03, 7, 0x03]
       (List.range (u8 p 1)).map (fun k => (u8 p (2 + 2 * k), u8 p (3 + 2 * k))) = [(7, 3)] ++ (7, 3) :: []
         ∧ idle.bank.mapStop (u8 p 0 + 1) (7, 3) = some .badField)
    ∧ (let p : List Byte := [0, 1, 1, 0x00]
       (List.range (u8 p 1)).map (fun k => (u8 p (2 + 2 * k), u8 p (3 + 2 * k))) = [] ++ (1, 0) :: []
         ∧ idle.bank.mapStop (u8 p 0 + 0) (1, 0) = some .inUse) := by decide +kernel

/-- An empty list; a code, a line and a class out of range; an entry in use by an allocation, by a waiter and by the purge
channel alone, and one not in use; a tube without CONFIGURE CHANNELS, one without a written code, one with a written code
that uncovers nothing, and one whose channel of code 2 gets a line while it requests a flow. -/
theorem witness_SetGasMap_parts :
    (let p : List Byte := [15, 0]
     2 ≤ p.length ∧ p.length = 2 + 2 * u8 p 1 ∧ u8 p 0 ≤ 15
       ∧ (List.range (u8 p 1)).map (fun k => (u8 p (2 + 2 * k), u8 p (3 + 2 * k))) = [] ++ [])
    ∧ ((16 : Nat) ≤ 16 ∧ 7 < 8 ∧ 8 ≠ 0xFF ∧ 3 < 4 ∧ ([GasClass.inert, .oxidant, .flammable, .reactive])[3]? = some .reactive)
    ∧ ((bank.gas 0).config = some gases ∧ gases.channels[(0 : Channel)].code = (0 : GasCode) ∧ bank.gasMap[(0 : GasCode)].line = some 0
      ∧ bank.supply.allocated 0 0 ≠ 0)
    ∧ (let b := queued 0 9000 bank
       (∃ w ∈ b.supply.waiters, w.tube = 0) ∧ gases.channels[(1 : Channel)].code = 1)
    ∧ (gases.purgeChannel = some 0 ∧ GasClass.reactive ≠ .inert)
    ∧ (∀ t, ∀ g, (bank.gas t).config = some g → ∀ i : Channel, g.channels[i].code ≠ (15 : GasCode))
    ∧ ((bank.gas 3).config = none ∧ (∀ c : Channel, gases.channels[c].code ≠ (3 : GasCode)))
    ∧ (bank.gasMap[(2 : GasCode)].line ≠ none ∧ gases.channels[(2 : Channel)].code = 2
      ∧ ∀ c : Channel, c ≠ 0 → (bank.gas 0).channels[c].requested = 0)
    ∧ (let b := bank.modGas 0 fun x => { x with channels := x.channels.set 2 ⟨6000, false, 0, 0, 0, 0⟩ }
       b.gasMap[gases.channels[(2 : Channel)].code].line ≠ none ∧ 0 < (b.gas 0).channels[(2 : Channel)].requested
         ∧ ∃ w ∈ ([(2, ⟨none, .flammable⟩)] : List (GasCode × MapEntry)), w.1 = gases.channels[(2 : Channel)].code ∧ w.2.line = none) := by
  refine ⟨by decide +kernel, by decide +kernel, by decide +kernel, by decide +kernel, by decide +kernel, ?_, by decide +kernel,
    by decide +kernel, by decide +kernel⟩
  intro t g
  match t with
  | 0 | 1 | 2 =>
    exact of_some (P := fun g : GasConfig => ∀ i : Channel, g.channels[i].code ≠ (15 : GasCode)) (o := (bank.gas 0).config) rfl
      (by decide +kernel) g
  | 3 => exact fun h => nomatch (h : none = some g)

theorem witness_SetSupplyLimit :
    (idle.hasRoom ∧ ([8, 0, 0, 0] : List Byte).length = 4 ∧ 7 < u8 [8, 0, 0, 0] 0 ∧ 200000 < u24 [0, 0x41, 0x0D, 3] 1)
    ∧ (u24 [0, 0x40, 0x0D, 3] 1 ≤ 200000 ∧ (7 : Line).val = u8 [7, 0, 0, 0] 0)
    ∧ (let total := sumTubes fun t => idle.bank.supply.allocated t 0
       u24 [0, 0x6F, 0x17, 0] 1 < total ∧ total ≤ u24 [0, 0x70, 0x17, 0] 1
         ∧ u24 [0, 0x70, 0x17, 0] 1 ≤ idle.bank.supply.limits[(0 : Line)]
         ∧ idle.bank.supply.limits[(0 : Line)] < u24 [0, 0x40, 0x0D, 3] 1) := by decide +kernel

theorem witness_GasRequest :
    (let v : Vector Nat 8 := Vector.ofFn fun l => sumChannels fun c =>
      if (bank.channelEntry 0 c).line = some l then (#v[2000, 20000, 0, 0, 0, 0] : Vector Nat 6)[c] else 0
     ∀ l : Line, v[l] ≤ bank.supply.allocated 0 l ∨ ((bank.supply.queue l = [] ∨ (bank.supply.queue l).head? = some 0)
       ∧ (sumTubes fun u => if u = 0 then 0 else bank.supply.allocated u l) + v[l] ≤ bank.supply.limits[l]))
    ∧ (let v : Vector Nat 8 := Vector.ofFn fun l => sumChannels fun c =>
        if (bank.channelEntry 0 c).line = some l then (#v[2000, 20001, 0, 0, 0, 0] : Vector Nat 6)[c] else 0
       let admits (l : Line) : Prop := v[l] ≤ bank.supply.allocated 0 l
         ∨ ((bank.supply.queue l = [] ∨ (bank.supply.queue l).head? = some 0)
           ∧ (sumTubes fun u => if u = 0 then 0 else bank.supply.allocated u l) + v[l] ≤ bank.supply.limits[l])
       ¬ admits 2 ∧ admits 0 ∧ admits 1 ∧ bank.supply.waits 0 = false)
    ∧ (0 < bank.supply.allocated 0 0 ∧ (∀ l : Line, bank.supply.allocated 0 l ≤ (#v[2000, 0, 20000, 0, 0, 0, 0, 0] : Vector Nat 8)[l])
      ∧ ∀ w ∈ bank.supply.waiters, w.tube ≠ 0)
    ∧ ∃ w ∈ (queued 0 20001 bank).supply.waiters, w.tube = 0 := by decide +kernel

/-- Tube 2 waits behind tube 1 for oxygen; tube 1's request fits on line 2 or does not. -/
def waiting (flow : Nat) : Bank := { queued 1 9000 (queued 0 flow bank) with
  supply := { (queued 1 9000 (queued 0 flow bank)).supply with due := true } }

theorem witness_SupplyReexamination :
    bank.supply.due = false ∧ (waiting 20001).supply.due = true
    ∧ (let b := waiting 20001
       (b.supply.waiter 0).map (·.lines) = some [2] ∧ b.supply.limits[(2 : Line)] < 20001 ∧ b.supply.allocated 0 2 < 20001
         ∧ (b.supply.waiter 1).map (·.lines) = some [2] ∧ (b.supply.queue 2).head? ≠ some 1
         ∧ (b.waiterPass publish (b.supply.waiters.map (·.tube))).2 = false)
    ∧ (let b := waiting 11000
       (∃ w, b.supply.waiter 0 = some w ∧ (b.supply.headsAll w && b.supply.admitsAll 0 w.vector) = true)
         ∧ (b.waiterPass publish (b.supply.waiters.map (·.tube))).2 = true
         ∧ (let b' := (b.waiterPass publish (b.supply.waiters.map (·.tube))).1
            (b'.waiterPass publish (b'.supply.waiters.map (·.tube))).2 = false)) := by
  refine ⟨by decide +kernel, by decide +kernel, by decide +kernel, ⟨_, rfl, by decide +kernel⟩, by decide +kernel, ?_⟩
  decide +kernel

/-- Tube 1, the oldest, waits for the oxygen that tube 2 holds; tube 2 waits for hydrogen and then holds no oxygen: the
first pass grants tube 2, the second tube 1, and the third nothing. -/
theorem witness_SupplyReexamination_chain :
    let b : Bank := (queued 0 20000 bank).modSupply fun x => { x with
      alloc := x.alloc.set 1 #v[2000, 0, 9000, 0, 0, 0, 0, 0], due := true
      waiters := x.waiters ++ [⟨1, .step, #v[2000, 0, 100, 0, 0, 0], #v[2000, 0, 0, 0, 0, 100, 0, 0], [5]⟩] }
    let pass (b : Bank) : Bank × Bool := b.waiterPass publish (b.supply.waiters.map (·.tube))
    (pass b).2 = true ∧ (pass b).1.supply.waiters.map (·.tube) = [0] ∧ (pass (pass b).1).2 = true
      ∧ (pass (pass (pass b).1).1).2 = false ∧ 2 ≤ b.supply.waiters.length := by decide +kernel

/-- Tube 1 with oxygen asked 6000 and driven at `flow`, its deviation timer at `d`, GAS_FLOW present or not and its level. -/
def drifting (flow d : Nat) (present : Bool) (L : Nat) (b : Bank) : Bank := b.modGas 0 fun x => { x with
  channels := purging.set 1 ⟨6000, false, flow, 4000, 10240, d⟩, deviating := present, levelAsked := L }
/-- And with nitrogen asked 3000 and driven at 2000. -/
def changing (b : Bank) : Bank := b.modGas 0 fun x => { x with
  channels := x.channels.set 0 ⟨3000, false, 2000, 2000, 10240, 0⟩ }

/-- Each channel's flow is the one the statement writes out: the requested flow of nitrogen and oxygen, 0 of hydrogen. -/
theorem witness_EffectiveSetpoints :
    (∀ c, bank.effectiveFlow 0 c = (bank.gas 0).channels[c].effective)
    ∧ (let b := changing bank
       b.effectiveFlow 0 0 = 3000 ∧ (b.gas 0).channels[(0 : Channel)].effective = 2000 ∧ (b.gas 0).deviating = false
         ∧ ∀ c : Channel, (b.gas 0).channels[c].deviation < 5120)
    ∧ (let b := drifting 5000 5120 true 3 bank
       b.effectiveFlow 0 1 = 6000 ∧ (b.gas 0).channels[(1 : Channel)].effective = 5000 ∧ (b.gas 0).deviating = true
         ∧ ∀ c : Channel, c ≠ 1 → (b.gas 0).channels[c].deviation < 5120)
    ∧ (let b := changing (drifting 6000 5120 true 3 bank)
       b.effectiveFlow 0 0 ≠ (b.gas 0).channels[(0 : Channel)].effective ∧ b.effectiveFlow 0 1 = (b.gas 0).channels[(1 : Channel)].effective
         ∧ (b.gas 0).channels[(1 : Channel)].deviation = 5120 ∧ (b.gas 0).deviating = true ∧ (b.gas 0).levelAsked = 3)
    ∧ (let b := changing (drifting 6000 5120 false 3 bank)
       (b.gas 0).channels[(1 : Channel)].deviation = 5120 ∧ (b.gas 0).deviating = false)
    ∧ ((bank.gas 0).config = some gases ∧ 0 < gases.channels[(0 : Channel)].fullScale) := by decide +kernel

/-- The six conditions a sample judges for tube 1, and the deviation timers it leaves, written out from the statement. -/
def sampledConditions (b : Bank) (credit timer : Nat) (oxygen : Nat) : Vector Bool 6 :=
  #v[(b.gate 0).sealed, decide (∀ z, (b.control 0 z).status = .good ∧ b.threshold ≤ (b.control 0 z).value),
    decide (20000 * 240 ≤ credit), decide (timer = 10240), decide (b.level 0 < 3),
    decide ((b.gas 0).channels[(2 : Channel)].requested * 1000 ≤ oxygen * b.ratio)]

/-- Tube 1 with the seal made, oxygen at 6000 and hydrogen asked 10000 and driven at `flow`, its gate open or closed. -/
def lit (credit : Nat) (flow : Nat) (isOpen : Bool) (b : Bank) : Bank := (sealedIn b).modTube 0 fun x => { x with
  gas := { x.gas with channels := #v[⟨5000, false, 5000, 5000, 10240, 0⟩, ⟨6000, false, 6000, 6000, 10240, 0⟩,
    ⟨10000, false, flow, 0, 0, 0⟩, ⟨0, false, 0, 0, 0, 0⟩, ⟨0, false, 0, 0, 0, 0⟩, ⟨0, false, 0, 0, 0, 0⟩] }
  gate := { x.gate with sealed := true, credit := credit, oxidantTimer := 10240, isOpen := isOpen } }

/-- With flow returns of 5000 and 6000 no channel deviates. The credit comes to 4,800,000 exactly, the volume asked, in the
third part; in the fourth the minimum temperature lies above the readings. -/
theorem witness_GasSample :
    (idle.bank.gas 3).config = none ∧ (idle.bank.gas 0).config = some gases
    ∧ (let s := having (lit 4794999 0 false)
       (s.bank.gas 0).deviating = false ∧ (s.bank.gas 0).levelAsked = 3 ∧ (s.bank.gate 0).lost = false
         ∧ ((s.bank.gate 0).isOpen = true ↔ ∀ i : Fin 6, (sampledConditions s.bank 4799999 10240 6000)[i] = true))
    ∧ (let s := having (lit 4795000 0 false)
       (s.bank.gate 0).isOpen = false ∧ (∀ i : Fin 6, (sampledConditions s.bank 4800000 10240 6000)[i] = true)
         ∧ ∀ c : Channel, (s.bank.gas 0).channels[c].deviation < 5120 ∧
           ((s.bank.gas 0).channels[c].effective = (s.bank.gas 0).channels[c].measured
             ∨ (s.bank.gas 0).channels[c].settle + 256 < 10240))
    ∧ (let s := having fun b => { lit 4800000 0 true b with threshold := 89001 }
       (s.bank.gate 0).isOpen = true ∧ (sampledConditions s.bank 4805000 10240 6000)[(1 : Fin 6)] = false
         ∧ (∀ i : Fin 6, i < 1 → (sampledConditions s.bank 4805000 10240 6000)[i] = true)
         ∧ ∀ c : Channel, (s.bank.gasMap[(gases.channels[c]).code]).cls = .flammable → (s.bank.gas 0).channels[c].effective = 0) := by
  decide +kernel

/-- With oxygen returned at 4000 against 6000, its deviation timer reaches 5120 in the first part and stands there in the
second; in the third it has come back; the gate losses and the cleared GATE condition stand last. -/
theorem witness_GasSample_conditions :
    (let b := drifting 6000 4864 false 3 bank
     min ((b.gas 0).channels[(1 : Channel)].settle + 256) 10240 = 10240 ∧ 4000 + max (6000 * 20 / 1000) (20000 / 100) < 6000
       ∧ min ((b.gas 0).channels[(1 : Channel)].deviation + 256) 5120 = 5120 ∧ (b.gas 0).deviating = false)
    ∧ (let b := drifting 6000 5120 true 5 bank
       (b.gas 0).deviating = true ∧ (b.gas 0).levelAsked ≠ 3)
    ∧ ((drifting 6000 5120 true 3 bank).gas 0).levelAsked = 3
    ∧ ((drifting 6000 0 true 3 bank).gas 0).deviating = true
    ∧ (let b := { lit 4800000 10000 true bank with threshold := 89001 }
       (b.gate 0).isOpen = true ∧ (b.gate 0).lost = false ∧ b.channelClass 0 2 = .flammable
         ∧ 0 < (b.gas 0).channels[(2 : Channel)].effective)
    ∧ (let b := bank.modGate 0 fun g => { g with lost := true }
       (b.gate 0).lost = true ∧ (b.gas 0).channels[(2 : Channel)].requested = 0) := by decide +kernel

theorem witness_BankSettings_gateLimits :
    idle.hasRoom ∧ ([0, 0, 0, 0, 0] : List Byte).length = 5 ∧ s24 [0xFF, 0xFF, 0xFF, 0, 0] 0 < 0
    ∧ 140000 < s24 [0xE1, 0x22, 2, 0, 0] 0 ∧ 2000 < u16 [0, 0, 0, 0xD1, 7] 3
    ∧ s24 [0xE0, 0x22, 2, 0xD0, 7] 0 ≤ 140000 ∧ u16 [0xE0, 0x22, 2, 0xD0, 7] 3 ≤ 2000 ∧ 0 ≤ s24 [0, 0, 0, 0, 0] 0 := by
  decide +kernel

/-- A payload of CONFIGURE RAIL for tube 1: length 10000, in-position `i`, door zone from 8000, speeds 600 and 600. -/
def railPayload (i : Byte) : List Byte := [1, 0x10, 0x27, i, 0x1F, 0x40, 0x1F, 0x58, 2, 0x58, 2]

theorem witness_ConfigureRail :
    ((having (inState .running)).takesTube (railPayload 0x41) 11 0 ∧ ((having (inState .running)).bank.run 0).state = .running)
    ∧ ((idle.bank.run 0).state ≠ .running ∧ ((having (paddled .stopping)).bank.boat 0).paddle = .stopping
      ∧ ((having (paddled .moving)).bank.boat 0).paddle = .moving)
    ∧ ((idle.bank.boat 0).paddle ≠ .moving ∧ (idle.bank.boat 0).paddle ≠ .stopping
      ∧ ¬ u16 (railPayload 0x40) 5 < u16 (railPayload 0x40) 3)
    ∧ (let p := railPayload 0x41
       u16 p 5 < u16 p 3 ∧ 1 ≤ u16 p 1 ∧ u16 p 1 ≤ 25000 ∧ 1 ≤ u16 p 3 ∧ u16 p 3 ≤ u16 p 1 ∧ u16 p 7 = 600 ∧ u16 p 9 = 600
         ∧ (idle.bank.run 0).state = .idle ∧ ((having (inState .safe)).bank.run 0).state = .safe)
    ∧ (let s := having (inState .unconfigured)
       s.takesTube (railPayload 0x41) 11 0 ∧ (s.bank.run 0).state ≠ .running ∧ (s.bank.boat 0).paddle = .stopped
         ∧ (s.bank.tube 0).marks = (true, true, true)) := by decide +kernel

theorem witness_LocateBoat :
    (idle.takesTube [4] 1 3 ∧ (idle.bank.run 3).state = .unconfigured)
    ∧ (idle.takesTube [1] 1 0 ∧ (idle.bank.boat 0).paddle ≠ .unlocated)
    ∧ ((having fun b => paddled .unlocated (under [held .overtemp 7 true] b)).bank.hold 0).level = 7
    ∧ (let s := having fun b => (paddled .unlocated b).modBoat 0 fun x => { x with table := Vector.replicate 16 0 }
       s.configured 0 ∧ (s.bank.hold 0).level ≠ 7 ∧ (s.bank.boat 0).paddle = .unlocated ∧ (s.bank.boat 0).rail = some rail
         ∧ min (min rail.locateSpeed (s.bank.boat 0).table[s.bank.speedBand 0]) rail.doorSpeed = 0)
    ∧ (let s := having (paddled .unlocated)
       0 < min (min rail.locateSpeed (s.bank.boat 0).table[s.bank.speedBand 0]) rail.doorSpeed
         ∧ (s.bank.gate 0).sealed = false) := by decide +kernel

theorem witness_MoveBoat :
    ((having (inState .safe)).takesTube [1, 0, 0, 1, 0] 5 0 ∧ ((having (inState .safe)).bank.run 0).state ≠ .idle)
    ∧ ((idle.bank.run 0).state = .idle ∧ 25000 < u16 [1, 0xA9, 0x61, 1, 0] 1 ∧ u16 [1, 0, 0, 0, 0] 3 < 1
      ∧ 600 < u16 [1, 0, 0, 0x59, 2] 3)
    ∧ (u16 [1, 0xA8, 0x61, 0x58, 2] 1 ≤ 25000 ∧ 1 ≤ u16 [1, 0, 0, 1, 0] 3 ∧ u16 [1, 0xA8, 0x61, 0x58, 2] 3 ≤ 600
      ∧ ((having (paddled .fault)).bank.boat 0).paddle = .fault ∧ ((having (paddled .moving)).bank.boat 0).paddle = .moving)
    ∧ ((idle.bank.boat 0).paddle = .stopped ∧ (idle.bank.boat 0).rail = some rail ∧ (idle.bank.boat 0).position = some 0
      ∧ (idle.bank.boat 0).motion = false ∧ (idle.bank.boat 0).locate = none ∧ 0 = min (u16 [1, 0, 0, 1, 0] 1) rail.inPos
      ∧ (idle.bank.hold 0).published ≤ 6)
    ∧ (let s := having (under [held .host 1 true])
       0 ≠ min (u16 [1, 1, 0, 1, 0] 1) rail.inPos ∧ 0 < (s.bank.hold 0).published)
    ∧ ((having (under [held .overtemp 7 true])).bank.hold 0).published = 7
    ∧ (let s := having fun b => b.modBoat 0 fun x => { x with table := Vector.replicate 16 0 }
       (s.bank.hold 0).published = 0 ∧ min 1 (s.bank.boat 0).table[s.bank.speedBand 0] = 0)
    ∧ 0 < min 1 (idle.bank.boat 0).table[idle.bank.speedBand 0]
    ∧ (let s := having sealedIn
       (s.bank.boat 0).position = some 14000 ∧ min (u16 [1, 0xA8, 0x61, 1, 0] 1) rail.inPos = 14000
         ∧ rail.doorZone ≤ 14000 ∧ 14000 ≤ rail.inPos) := by decide +kernel

/-- Tube 1 with a locate in progress after `n` steps. -/
def locating (n : Nat) (b : Bank) : Bank := opened (b.modBoat 0 fun x => { x with
  paddle := .moving, position := none, locate := some 200, speed := 50, locateTravel := n })
/-- Tube 1 with an order at rest. -/
def ordered (o : MoveOrder) (b : Bank) : Bank := b.modBoat 0 fun x => { x with order := some o }

/-- The last two parts: a start mark that lies ahead of the start is the next mark, and no mark lies between 1020 and 1400. -/
theorem witness_MotionOrders :
    ((bank.boat 0).order = none ∧ ((locating 10 bank).boat 0).locate ≠ none)
    ∧ (let b := ordered ⟨.host, 0, 300, none, false⟩ bank
       (b.boat 0).order = some ⟨.host, 0, 300, none, false⟩ ∧ (b.boat 0).rail = some rail ∧ (b.boat 0).locate = none
         ∧ (b.boat 0).paddle = .stopped ∧ (b.boat 0).position = some 0 ∧ (b.hold 0).published ≤ 6)
    ∧ (let b := ordered ⟨.host, 500, 300, none, false⟩ (under [held .host 1 true] bank)
       (b.boat 0).position ≠ some 500 ∧ 0 < (b.hold 0).published)
    ∧ (let b := ordered ⟨.step, 500, 300, some 0, true⟩ (paddled .unlocated bank)
       (b.boat 0).paddle = .unlocated ∧ (b.hold 0).published = 0)
    ∧ (let b := ordered ⟨.host, 500, 300, none, false⟩ (paddled .fault bank)
       (b.boat 0).paddle = .fault ∧ (b.hold 0).published = 0)
    ∧ (let b := ordered ⟨.host, 500, 300, none, false⟩ bank
       (b.boat 0).paddle = .stopped ∧ (b.boat 0).position = some 0 ∧ 0 ≠ 500 ∧ (b.hold 0).published = 0
         ∧ 0 < min 300 (b.boat 0).table[b.speedBand 0])
    ∧ (let b := (ordered ⟨.host, 500, 300, none, false⟩ bank).modBoat 0 fun x => { x with table := Vector.replicate 16 0 }
       min 300 (b.boat 0).table[b.speedBand 0] = 0)
    ∧ (let x := (travelling 600 700 3000 bank).boat 0
       x.paddle = .moving ∧ x.locate = none ∧ x.stopping = none ∧ x.rail = some rail
         ∧ x.order = some ⟨.host, 3000, 300, none, false⟩ ∧ x.travel = some ⟨true, 600, 3000, 300, 150, []⟩
         ∧ x.position = some 700)
    ∧ (let x := ((halting 600 700 3000 bank).modBoat 0 fun x => { x with stopping := some ⟨1000, .step, none, 3000⟩ }).boat 0
       x.paddle = .stopping ∧ x.locate = none ∧ x.stopping ≠ none)
    ∧ (∀ k ∈ List.range 51, ¬ (min 600 1400 ≤ k * 500 ∧ k * 500 ≤ max 600 1400 ∧ 600 < k * 500 ∧ 1021 ≤ k * 500 + 20))
    ∧ (2 * 500 ≤ rail.length ∧ min 990 3000 ≤ 2 * 500 ∧ 2 * 500 ≤ max 990 3000 ∧ 990 < 2 * 500 ∧ 1020 ≤ 2 * 500 + 20
      ∧ ∀ j ∈ List.range 51, 990 < j * 500 → 2 ≤ j) := by decide +kernel

theorem witness_ClearMotionFault :
    (idle.takesTube [4] 1 3 ∧ (idle.bank.run 3).state = .unconfigured ∧ (idle.bank.boat 0).paddle ≠ .fault)
    ∧ (let s := having fun b => (paddled .fault b).modBoat 0 fun x => { x with motion := true, unlocWaiting := true }
       s.takesTube [1] 1 0 ∧ s.configured 0 ∧ (s.bank.boat 0).paddle = .fault ∧ (s.bank.boat 0).motion = true
         ∧ (s.bank.boat 0).unlocWaiting = true)
    ∧ (let s := having fun b => (paddled .fault b).modBoat 0 fun x => { x with motion := true }
       (s.bank.boat 0).motion = true ∧ (s.bank.boat 0).unlocWaiting = false) := by decide +kernel

/-- A payload of SET SPEED TABLE for a tube, its last entry 512 + `l`. -/
def speedPayload (t l : Byte) : List Byte := t :: (List.replicate 15 ([0, 0] : List Byte)).flatten ++ [l, 2]

theorem witness_SpeedTable :
    (idle.takesTube (speedPayload 4 0) 33 3 ∧ (idle.bank.run 3).state = .unconfigured)
    ∧ (idle.takesTube (speedPayload 1 89) 33 0 ∧ idle.configured 0
      ∧ ∃ i : Fin 16, 600 < u16 (speedPayload 1 89) (1 + 2 * i.val))
    ∧ (∀ i : Fin 16, u16 (speedPayload 1 88) (1 + 2 * i.val) ≤ 600)
    ∧ (∀ z, (State.reset.bank.control 0 z).status ≠ .good)
    ∧ (let b := { bank with scanner := { bank.scanner with records := bank.scanner.records.set 3 (reading 150000) } }
       (b.control 0 1).status = .good
         ∧ (∀ y, (b.control 0 y).status = .good → (b.control 0 y).value ≤ (b.control 0 1).value)
         ∧ ((15 : Fin 16).val : Int) = min ((b.control 0 1).value / 10000) 15)
    ∧ (let b := { bank with scanner := { bank.scanner with records := Vector.replicate 25 (reading (-1)) } }
       (b.control 0 1).value < 0) := by decide +kernel

/-- Tube 1 with its paddle travelling to a rest at its target, or under a stopping record. -/
theorem witness_PaddleStep_rest :
    (let x := (travelling 600 3000 3000 bank).boat 0
     x.position = some 3000 ∧ x.stopping = none ∧ x.order = some ⟨.host, 3000, 300, none, false⟩)
    ∧ (let x := (halting 600 1000 3000 bank).boat 0
       x.position = some 1000 ∧ x.stopping = none ∧ ∀ o, x.order = some o → o.target ≠ 1000)
    ∧ (let x := ((halting 600 3000 3000 bank).modBoat 0 fun x => { x with stopping := some ⟨3000, .step, some 0, 3000⟩ }).boat 0
       x.position = some 3000 ∧ x.stopping = some ⟨3000, .step, some 0, 3000⟩)
    ∧ (let x := ((halting 600 1000 3000 bank).modBoat 0 fun x => { x with stopping := some ⟨1000, .step, some 0, 3000⟩ }).boat 0
       x.position = some 1000 ∧ x.stopping = some ⟨1000, .step, some 0, 3000⟩) := by
  refine ⟨by decide +kernel, ⟨by decide +kernel, by decide +kernel, ?_⟩, by decide +kernel, by decide +kernel⟩
  exact of_some (a := ⟨.host, 3000, 300, none, false⟩) (by decide +kernel) (by decide)

theorem witness_PaddleStep :
    ((idle.bank.boat 0).paddle ≠ .moving ∧ (idle.bank.boat 0).paddle ≠ .stopping)
    ∧ (let s := having (locating 538)
       (s.bank.boat 0).paddle = .moving ∧ (s.bank.boat 0).locate.isSome ∧ (s.bank.boat 0).locateTravel + 1 < 540)
    ∧ 540 ≤ ((having (locating 539)).bank.boat 0).locateTravel + 1
    ∧ (let s := having (travelling 600 1019 3000)
       (s.bank.boat 0).paddle = .moving ∧ (s.bank.boat 0).locate = none ∧ (s.bank.boat 0).rail = some rail
         ∧ (s.bank.boat 0).travel = some ⟨true, 600, 3000, 300, 150, []⟩ ∧ (s.bank.boat 0).position = some 1019
         ∧ (∀ k ∈ List.range 51, ¬ (k * 500 + 21 = 1020 ∧ 600 ≤ k * 500)) ∧ 1020 ≠ 3000)
    ∧ (let s := having (travelling 600 2999 3000)
       min (2999 + 1) 3000 = 3000 ∧ (s.bank.boat 0).order = some ⟨.host, 3000, 300, none, false⟩
         ∧ (s.bank.boat 0).stopping = none)
    ∧ (let s := having (travelling 600 1020 3000)
       (s.bank.boat 0).position = some 1020 ∧ 2 * 500 ≤ rail.length ∧ min 600 3000 ≤ 2 * 500 ∧ 2 * 500 ≤ max 600 3000
         ∧ 2 ∉ ([] : List Nat) ∧ ¬ (2 * 500 ≤ 600 + 20 ∧ 600 ≤ 2 * 500 + 20) ∧ min (1020 + 1) 3000 = 2 * 500 + 21)
    ∧ (let s := having (travelling 13600 12980 0)
       (s.bank.boat 0).travel = some ⟨false, 13600, 0, 300, 150, []⟩ ∧ max (12980 - 1) 0 + 21 = 26 * 500) := by decide +kernel

theorem witness_MarkRead :
    ((idle.bank.boat 0).rail = some rail ∧ (idle.bank.boat 0).paddle ≠ .moving ∧ (idle.bank.boat 0).paddle ≠ .stopping)
    ∧ (let s := having (locating 10)
       (s.bank.boat 0).paddle = .moving ∧ (s.bank.boat 0).locate = some 200 ∧ 28 * 500 ≤ rail.inPos ∧ rail.inPos < 29 * 500
         ∧ 0 < min (min 200 (s.bank.boat 0).table[s.bank.speedBand 0]) rail.doorSpeed
         ∧ (s.bank.boat 0).band = 15 ∧ ((after (.markRead 0 28) s).bank.boat 0).band = 8)
    ∧ (let s := having fun b => (locating 10 b).modBoat 0 fun x => { x with table := Vector.replicate 16 0 }
       min (min 200 (s.bank.boat 0).table[s.bank.speedBand 0]) rail.doorSpeed = 0)
    ∧ (let s := having (travelling 600 980 3000)
       (s.bank.boat 0).paddle = .moving ∧ (s.bank.boat 0).locate = none ∧ (s.bank.boat 0).position = some 980
         ∧ (s.bank.boat 0).travel = some ⟨true, 600, 3000, 300, 150, []⟩
         ∧ 2 * 500 ≤ rail.length ∧ 2 * 500 ≤ 980 + 20 ∧ 980 ≤ 2 * 500 + 20 ∧ min 600 3000 ≤ 2 * 500
         ∧ 2 * 500 ≤ max 600 3000 ∧ 2 ∉ ([] : List Nat) ∧ min (2 * 500) rail.inPos ≠ 3000
         ∧ 0 < min 300 (s.bank.boat 0).table[s.bank.speedBand 0])
    ∧ (let s := having fun b => (travelling 600 980 3000 b).modBoat 0 fun x => { x with table := Vector.replicate 16 0 }
       min 300 (s.bank.boat 0).table[s.bank.speedBand 0] = 0 ∧ (s.bank.boat 0).stopping = none
         ∧ (s.bank.boat 0).order = some ⟨.host, 3000, 300, none, false⟩)
    ∧ (let s := having fun b => (travelling 600 980 3000 b).modBoat 0 fun x => { x with paddle := .stopping }
       (s.bank.boat 0).paddle = .stopping
         ∧ Travel.nextMark ⟨true, 600, 3000, 300, 150, []⟩ rail 980 = some 2)
    ∧ (let s := having (travelling 600 2990 3000)
       (s.bank.boat 0).order = some ⟨.host, 3000, 300, none, false⟩ ∧ 6 * 500 ≤ 2990 + 20 ∧ min (6 * 500) rail.inPos = 3000)
    ∧ (2 * 500 ≤ 1010 + 20 ∧ 1010 ≤ 2 * 500 + 20 ∧ 2 * 500 ≤ 1010 ∧ 1010 ≤ 2 * 500 + 20)
    ∧ ¬ (3 * 500 ≤ 980 + 20 ∧ 980 ≤ 3 * 500 + 20) := by decide +kernel

theorem witness_SealSensor :
    ((idle.bank.boat 0).sensorRaw = false ∧ (idle.bank.boat 0).sensorRaw ≠ true
      ∧ (idle.bank.boat 0).sensorRaw = (idle.bank.boat 0).sensor)
    ∧ (let s := having fun b => b.modBoat 0 fun x => { x with sensorRaw := true }
       (s.bank.boat 0).sensorRaw ≠ (s.bank.boat 0).sensor ∧ (s.bank.gate 0).sealed = false
         ∧ (s.bank.boat 0).position ≠ some rail.inPos)
    ∧ (let s := having fun b => b.modBoat 0 fun x => { x with sensorRaw := true, position := some 14000 }
       (s.bank.boat 0).paddle = .stopped ∧ (s.bank.boat 0).sensorRaw = true ∧ (s.bank.boat 0).rail = some rail
         ∧ (s.bank.boat 0).position = some rail.inPos ∧ (s.bank.gate 0).sealed = false)
    ∧ (let s := having fun b => (sealedIn b).modBoat 0 fun x => { x with sensorRaw := false }
       (s.bank.boat 0).sensorRaw ≠ (s.bank.boat 0).sensor ∧ ¬ (s.bank.boat 0).sensorRaw = true
         ∧ (s.bank.gate 0).sealed = true ∧ (s.bank.gate 0).isOpen = false)
    ∧ (let s := having fun b => (lit 0 0 true b).modBoat 0 fun x => { x with sensorRaw := false }
       (s.bank.gate 0).sealed = true ∧ (s.bank.gate 0).isOpen = true
         ∧ ∀ c : Channel, s.bank.channelClass 0 c = .flammable → (s.bank.gas 0).channels[c].effective = 0)
    ∧ (let s := having fun b => (lit 0 10000 true b).modBoat 0 fun x => { x with sensorRaw := false }
       (s.bank.gate 0).sealed = true ∧ (s.bank.gate 0).isOpen = true ∧ (s.bank.gate 0).lost = false
         ∧ ∃ c : Channel, s.bank.channelClass 0 c = .flammable ∧ 0 < (s.bank.gas 0).channels[c].effective)
    ∧ (let s := having fun b => ((lit 0 10000 true b).modGate 0 fun g => { g with lost := true }).modBoat 0
         fun x => { x with sensorRaw := false }
       (s.bank.gate 0).sealed = true ∧ (s.bank.gate 0).isOpen = true ∧ (s.bank.gate 0).lost = true) := by
  decide +kernel

/-- Group 4 (tube 2, group 2) with a raw pattern, a byte and a level, its table that of the example of 9.2. -/
def grouped (raw byte : BitVec 8) (level : Nat) (b : Bank) : Bank := { b with interlock := { b.interlock with
  groups := b.interlock.groups.set 4 ⟨raw, byte, level, Vector.replicate 8 0⟩
  tables := b.interlock.tables.set 4 ((((Vector.replicate 256 0).set 1 4).set 2 2).set 3 6) } }

theorem witness_InterlockInputs :
    ((idle.bank.group 4).raw.getLsbD 7 = false ∧ (idle.bank.group 4).raw.getLsbD 7 ≠ true
      ∧ (idle.bank.group 4).raw.getLsbD 7 = (idle.bank.group 4).byte.getLsbD 7)
    ∧ (let s := having (grouped 0x80 0 0)
       (s.bank.group 4).raw.getLsbD 7 ≠ (s.bank.group 4).byte.getLsbD 7
         ∧ (s.bank.interlock.tables[(4 : Group)])[(128 : Fin 256)] = (s.bank.group 4).level)
    ∧ (let s := having (grouped 3 2 2)
       (s.bank.group 4).raw.getLsbD 0 ≠ (s.bank.group 4).byte.getLsbD 0
         ∧ (s.bank.interlock.tables[(4 : Group)])[(3 : Fin 256)] = 6 ∧ (s.bank.group 4).level = 2)
    ∧ (let s := having (grouped 0 1 4)
       (s.bank.group 4).raw.getLsbD 0 ≠ (s.bank.group 4).byte.getLsbD 0
         ∧ (s.bank.interlock.tables[(4 : Group)])[(0 : Fin 256)] = 0 ∧ (s.bank.group 4).level ≠ 0) := by decide +kernel

theorem witness_SetActionTable :
    (idle.hasRoom ∧ 3 ≤ ([10, 0, 0] : List Byte).length ∧ ([10, 0, 0] : List Byte).length = 3 + u8 [10, 0, 0] 2
      ∧ 10 ≤ u8 [10, 0, 0] 0)
    ∧ (let p : List Byte := [9, 255, 2, 7, 7]
       p.length = 3 + u8 p 2 ∧ 256 < u8 p 1 + (p.drop 3).length)
    ∧ (∃ x ∈ ([9, 0, 1, 8] : List Byte).drop 3, 7 < x.toNat)
    ∧ (let p : List Byte := [9, 255, 1, 7]
       (9 : Group).val = u8 p 0 ∧ u8 p 1 + (p.drop 3).length ≤ 256 ∧ (∀ x ∈ p.drop 3, x.toNat ≤ 7)
         ∧ ¬ (u8 p 1 ≤ (idle.bank.group 9).byte.toNat ∧ (idle.bank.group 9).byte.toNat < u8 p 1 + (p.drop 3).length))
    ∧ (let p : List Byte := [9, 0, 1, 7]
       u8 p 1 ≤ (idle.bank.group 9).byte.toNat ∧ (idle.bank.group 9).byte.toNat < u8 p 1 + (p.drop 3).length
         ∧ 7 ≠ (idle.bank.group 9).level)
    ∧ (idle.bank.group 9).level = 0 := by decide +kernel

/-- The scanner at channel `c`, whose record is `r`, every other channel GOOD at 89000. -/
def converting (c : TcChannel) (r : ChannelRecord) (b : Bank) : Bank := { b with scanner := { b.scanner with
  records := b.scanner.records.set c r, position := c } }
/-- Zone 3 of tube 1 in overtemperature, forced off. -/
def troubled (b : Bank) : Bank := b.modLoops 0 fun v => v.set 2 ⟨0, 0, false, true, true, false, 0⟩

theorem witness_TcConversion :
    (idle.bank.scanner.position = 0)
    ∧ (let s := having (converting 23 (reading 89000))
       s.bank.scanner.position = 23 ∧ (23 : TcChannel).val = 1 + 6 * (3 : Tube).val + 2 * (2 : Zone).val
         ∧ ¬ s.configured 3 ∧ (s.bank.boat 3).blocked = false)
    ∧ (let s := having (converting 1 ⟨89000, .opened, 3, none⟩)
       (1 : TcChannel).val = 1 + 6 * (0 : Tube).val + 2 * (0 : Zone).val ∧ s.bank.scanner.records[(1 : TcChannel)].bad = 3
         ∧ s.configured 0 ∧ s.bank.tcPresent 0 = false)
    ∧ (let s := having fun b => { converting 5 ⟨89000, .opened, 4, none⟩ b with
         scanner := { (converting 5 ⟨89000, .opened, 4, none⟩ b).scanner with tc := #v[true, false, false, false] } }
       (5 : TcChannel).val = 1 + 6 * (0 : Tube).val + 2 * (2 : Zone).val ∧ s.configured 0 ∧ s.bank.tcPresent 0 = true
         ∧ (s.bank.control 0 0).status = .good ∧ (s.bank.control 0 1).status = .good)
    ∧ ((24 : TcChannel).val = 2 + 6 * (3 : Tube).val + 2 * (2 : Zone).val ∧ (idle.bank.tube 3).zonesConfig = none)
    ∧ ((6 : TcChannel).val = 2 + 6 * (0 : Tube).val + 2 * (2 : Zone).val ∧ (idle.bank.tube 0).zonesConfig = some zones
      ∧ ¬ ((idle.bank.loops 0)[(2 : Zone)].overtemp = true ∨ (idle.bank.loops 0)[(2 : Zone)].failed = true)
      ∧ ∀ y : Zone, ¬ ((idle.bank.loops 0)[y].overtemp = true ∨ (idle.bank.loops 0)[y].failed = true))
    ∧ (let s := having troubled
       ((s.bank.loops 0)[(2 : Zone)].overtemp = true)
         ∧ ∀ y : Zone, y ≠ 2 → ¬ ((s.bank.loops 0)[y].overtemp = true ∨ (s.bank.loops 0)[y].failed = true)) := by decide +kernel

/-- The reference at 0, so that an input is the junction's own temperature. -/
def referred (b : Bank) : Bank := { b with scanner := { b.scanner with records := b.scanner.records.set 0 (reading 0) } }

/-- R94: against a reference at 0 the voltage is the temperature, and at 150000 it is still in range; R81, R82: zone 3 enters
trouble beside zone 1 in trouble; stays in it between its limit less 1000 and its limit; leaves it beside zone 1. -/
theorem witness_TcConversion_trouble :
    (let b := referred (converting 5 (reading 89000) bank)
     b.scanner.records[(0 : TcChannel)].value = 0 ∧ b.scanner.records[(0 : TcChannel)].status = .good
       ∧ -5000 ≤ (150000 : Int) ∧ (150000 : Int) ≤ 150000)
    ∧ (let s := having fun b => (referred (converting 6 (reading 145000) b)).modLoops 0 fun v =>
         v.set 0 ⟨0, 0, false, true, true, false, 0⟩
       ((s.bank.loops 0)[(0 : Zone)].overtemp = true ∧ (0 : Zone) ≠ 2) ∧ zones.zones[(2 : Zone)].overtempLimit < 145001
         ∧ ¬ ((s.bank.loops 0)[(2 : Zone)].overtemp = true ∨ (s.bank.loops 0)[(2 : Zone)].failed = true)
         ∧ (let s' := after (.tcConversion (some 145001)) s
            (s'.bank.loops 0)[(2 : Zone)].forcedOff = true ∧ (s'.bank.hold 0).level = 0))
    ∧ (let s := having fun b => (referred (converting 6 (reading 145000) b)).modLoops 0 fun v =>
         v.set 2 ⟨0, 0, false, true, true, true, 0⟩
       ¬ zones.zones[(2 : Zone)].overtempLimit < 144001 ∧ ¬ 144001 ≤ zones.zones[(2 : Zone)].overtempLimit - 1000
         ∧ (let s' := after (.tcConversion (some 144001)) s
            (s'.bank.loops 0)[(2 : Zone)].overtemp = true ∧ (s'.bank.loops 0)[(2 : Zone)].failed = false))
    ∧ (let s := having fun b => (referred (converting 6 (reading 145000) b)).modLoops 0 fun v =>
         (v.set 2 ⟨0, 0, false, true, true, false, 0⟩).set 0 ⟨0, 0, false, true, true, false, 0⟩
       (144000 : Int) ≤ zones.zones[(2 : Zone)].overtempLimit - 1000
         ∧ (let s' := after (.tcConversion (some 144000)) s
            (s'.bank.loops 0)[(2 : Zone)].overtemp = false ∧ (s'.bank.hold 0) = (s.bank.hold 0))) := by decide +kernel

/-- A blocked paddle at a new control reading: with an order at rest, and with a locate that waits at speed 0 and above 0. -/
theorem witness_TcConversion_blocked :
    (let x := (bank.boat 0)
     x.blocked = false ∧ (travelling 600 700 3000 bank |>.boat 0).paddle = .moving)
    ∧ (let x := ((ordered ⟨.host, 3000, 300, none, false⟩ bank).modBoat 0 fun x => { x with blocked := true }).boat 0
       x.blocked = true ∧ x.paddle = .stopped ∧ x.locate = none)
    ∧ (let b := (paddled .unlocated bank).modBoat 0 fun x => { x with blocked := true, locate := some 200 }
       (b.boat 0).blocked = true ∧ (b.boat 0).paddle = .unlocated ∧ (b.boat 0).locate = some 200 ∧ (b.boat 0).rail = some rail
         ∧ 0 < min (min 200 (b.boat 0).table[b.speedBand 0]) rail.doorSpeed)
    ∧ (let b := (paddled .unlocated bank).modBoat 0 fun x => { x with
         blocked := true, locate := some 200, table := Vector.replicate 16 0 }
       min (min 200 (b.boat 0).table[b.speedBand 0]) rail.doorSpeed = 0) := by decide +kernel

/-- Tube 1 ACTIVE in slot 63 with a record, whose loop counter is `n`. -/
def lastStep (r : StepRecord) (n : Nat) (b : Bank) : Bank :=
  (running [⟨plain 1 0, 0⟩] b).modRun 0 fun x => { x with step := some 63, slots := x.slots.set 63 (some ⟨r, n⟩) }

theorem witness_RunEngineExpiry :
    ((idle.bank.tube 3).zonesConfig = none ∧ (idle.bank.run 0).state ≠ .running
      ∧ ((having fun b => running [⟨plain 1 0, 0⟩] (under [held .host 1 true] b)).bank.hold 0).stack ≠ [])
    ∧ (let s := having (running [⟨plain 2 0, 0⟩])
       s.bank.expiringPeriod 0 = some 1024 ∧ (s.bank.run 0).state = .running ∧ (s.bank.hold 0).stack = []
         ∧ (s.bank.run 0).step = some 0 ∧ (s.bank.run 0).slots[0] = some ⟨plain 2 0, 0⟩ ∧ (s.bank.run 0).phase = .active
         ∧ ¬ (plain 2 0).duration * 1024 ≤ (s.bank.run 0).stepClock + 1024 ∧ (plain 2 0).maxTime = 0)
    ∧ (let s := having (running [⟨plain 2 2, 0⟩])
       (s.bank.run 0).maxClock + 1024 < (plain 2 2).maxTime * 1024)
    ∧ (let s := having fun b => (running [⟨plain 2 2, 0⟩] b).modRun 0 fun x => { x with maxClock := 1024 }
       (plain 2 2).maxTime ≠ 0 ∧ (plain 2 2).maxTime * 1024 ≤ (s.bank.run 0).maxClock + 1024 ∧ (s.bank.run 0).stepTime = false
         ∧ ¬ (plain 2 2).duration * 1024 ≤ (s.bank.run 0).stepClock + 1024)
    ∧ (let s := having (running [⟨plain 1 0, 0⟩, ⟨plain 1 0, 0⟩])
       (plain 1 0).duration * 1024 ≤ (s.bank.run 0).stepClock + 1024 ∧ (plain 1 0).stability = none
         ∧ (plain 1 0).motion = none ∧ (plain 1 0).purge = none ∧ (plain 1 0).repetition = none
         ∧ (∀ k : Channel, (s.bank.gas 0).channels[k].effective = (s.bank.gas 0).channels[k].requested)
         ∧ (s.bank.run 0).stepTime = false ∧ (s.bank.boat 0).order = none
         ∧ (1 : Slot).val = (0 : Slot).val + 1 ∧ (plain 1 0).final = false ∧ (s.bank.run 0).slots[1] ≠ none)
    ∧ ((having (running [⟨plain 1 0, 0⟩])).bank.run 0).slots[1] = none
    ∧ ({ plain 1 0 with final := true }).final = true
    ∧ (let r : StepRecord := { plain 1 0 with repetition := some ⟨0, 2⟩ }
       let s := having (lastStep r 2)
       (s.bank.run 0).slots[63] = some ⟨r, 2⟩ ∧ r.repetition = some ⟨0, 2⟩ ∧ 0 < 2 ∧ (0 : Slot).val = (⟨0, 2⟩ : RepeatPart).toIndex
         ∧ (s.bank.run 0).slots[0] ≠ none)
    ∧ (let s := having (lastStep { plain 1 0 with repetition := some ⟨1, 2⟩ } 1)
       (s.bank.run 0).slots[1] = none)
    ∧ (let r : StepRecord := { plain 1 0 with repetition := some ⟨0, 2⟩ }
       (having (lastStep r 0)).bank.run 0 |>.slots[63] = some ⟨r, 0⟩) := by decide +kernel

/-- A complete step beside a present STEP_TIME condition and an order of the current step. -/
theorem witness_RunEngineExpiry_timed :
    let s := having fun b => ordered ⟨.step, 500, 300, some 0, true⟩ ((running [⟨plain 1 1, 0⟩, ⟨plain 1 0, 0⟩] b).modRun 0 fun x =>
      { x with stepTime := true })
    (s.bank.run 0).stepTime = true ∧ (s.bank.run 0).phase = .active ∧ (s.bank.hold 0).stack = []
      ∧ (plain 1 1).duration * 1024 ≤ (s.bank.run 0).stepClock + 1024 ∧ (plain 1 1).repetition = none
      ∧ (s.bank.boat 0).order = some ⟨.step, 500, 300, some 0, true⟩ ∧ (s.bank.run 0).slots[1] ≠ none := by decide +kernel

theorem witness_StepEntry :
    (let b := inState .running (lastFilled bank)
     (b.run 0).slots[63] = some ⟨plain 1 0, 0⟩ ∧ (plain 1 0).gas = none)
    ∧ (let b := gassed .waitGas bank
       (b.run 0).slots[0] = some ⟨{ plain 60 0 with gas := some gasPart }, 0⟩
         ∧ ({ plain 60 0 with gas := some gasPart }).gas = some gasPart ∧ (b.run 0).step = some 0 ∧ (b.run 0).activated = true)
    ∧ (let b := (gassed .waitGas bank).modRun 0 fun x => { x with activated := false }
       (b.run 0).step = some 0 ∧ (b.run 0).slots[0] = some ⟨{ plain 60 0 with gas := some gasPart }, 0⟩
         ∧ (b.run 0).activated = false) := by decide +kernel

/-- The idle purge leaves the Boat Drive as it stood. -/
theorem witness_RunEnd :
    let purged (b : Bank) : Boat := ((b.modRun 0 fun x => { x with state := .idle }).idlePurge publish 0).boat 0
    (purged (lastStep (plain 1 0) 0 bank)).order = none
    ∧ (let x := purged (ordered ⟨.step, 500, 300, some 63, true⟩ (lastStep (plain 1 0) 0 bank))
       x.order = some ⟨.step, 500, 300, some 63, true⟩ ∧ x.paddle = .stopped)
    ∧ (let x := purged (travelling 600 700 3000 (lastStep (plain 1 0) 0 bank))
       x.order = some ⟨.host, 3000, 300, none, false⟩ ∧ x.paddle = .moving ∧ x.locate = none ∧ x.rail = some rail
         ∧ x.travel = some ⟨true, 600, 3000, 300, 150, []⟩ ∧ x.position = some 700 ∧ x.stopping = none)
    ∧ (let x := purged ((halting 600 700 3000 (lastStep (plain 1 0) 0 bank)).modBoat 0 fun x => { x with
         stopping := some ⟨1000, .step, none, 3000⟩ })
       x.paddle = .stopping ∧ x.stopping ≠ none) := by decide +kernel

theorem witness_SettingsStand :
    (Instr.bankTick).mayWrite .zones = false ∧ exec .bankTick idle = .next { idle with bank := idle.bank.tick } :=
  ⟨by decide +kernel, rfl⟩

/-! ### States that meet the invariants, beside that of reset -/

/-- The small bank with a tick in front of its queue. -/
def ticking : State := { idle with pending := [.bankTick] }
theorem ticking_steps : step ticking = .next { idle with bank := idle.bank.tick } := rfl

theorem tube_onRail : tube.boat.onRail :=
  ⟨of_some (a := 0) rfl (by decide), of_none rfl, by decide, by decide, by decide, by decide,
    fun h => absurd h (by decide)⟩
theorem fresh_onRail : (TubeState.reset false).boat.onRail := ⟨rfl, rfl, rfl, rfl⟩

theorem witness_PaddleKept : ticking.bank.PaddleSafe ∧ ticking.bank.configSafe ∧ ∃ s', step ticking = .next s' := by
  refine ⟨⟨fun t => ?_⟩, by unfold Bank.configSafe; decide +kernel, _, ticking_steps⟩
  match t with
  | 0 | 1 | 2 => exact tube_onRail
  | 3 => exact fresh_onRail
theorem witness_PowerKept : ticking.bank.powerSafe ∧ ∃ s', step ticking = .next s' :=
  ⟨by unfold Bank.powerSafe; decide +kernel, _, ticking_steps⟩
theorem witness_LinkKept : ticking.bank.linkSafe ∧ ∃ s', step ticking = .next s' :=
  ⟨by unfold Bank.linkSafe; decide +kernel, _, ticking_steps⟩
theorem witness_HoldKept : ticking.bank.holdSafe ∧ ∃ s', step ticking = .next s' := by
  refine ⟨⟨?_, ?_, by decide +kernel⟩, _, ticking_steps⟩
  · unfold HoldUnit.ordered
    decide +kernel
  · intro g i
    have h : ticking.bank.interlock.tables = Vector.replicate 10 (Vector.replicate 256 0) := rfl
    rw [h]
    simp
theorem witness_GateKept : ticking.bank.gateSafe ∧ ∃ s', step ticking = .next s' :=
  ⟨by unfold Bank.gateSafe; decide +kernel, _, ticking_steps⟩

end Sys2Proof.Tests
end

section
/-! SUPPORT. Proofs of the statements about temperature ramps (chapter 3): a start, SET IDLE TEMPERATURE, and the Ramp
Generator at an expiry. A settled lag, a jump and an advance are each brought to one update of the ramp record, with RAMP_LAG
cleared after it where it was present. -/

namespace Sys2Proof.Proofs.Ramps

open Sys2Proof Sys2Proof.Machine

variable {b : Bank} {t : Tube}

/-! ## A cleared source -/

theorem clear_modRamp (s : Source) (f : Ramp → Ramp) : (b.modRamp t f).clear t s = (b.clear t s).modRamp t f := by
  simp only [Bank.clear, Bank.modHold, Bank.modRamp, Bank.modTube_modTube]

theorem run_clear (s : Source) : (b.clear t s).run t = b.run t := Bank.run_modHold ..
theorem ramp_clear (s : Source) : (b.clear t s).ramp t = b.ramp t := Bank.ramp_modHold ..

theorem stack_setRecord (h : HoldUnit) (s : Source) (r : SourceRecord) : (h.setRecord s r).stack = h.stack := by
  unfold HoldUnit.setRecord
  split <;> rfl

/-- A clear marks frames and takes none away (R30). -/
theorem unheld_clear (s : Source) : (b.clear t s).unheld t = b.unheld t := by
  simp [Bank.clear, Bank.unheld, HoldUnit.mark, stack_setRecord]

theorem advanceAllowed_modRamp (f : Ramp → Ramp) : (b.modRamp t f).advanceAllowed t = b.advanceAllowed t := by
  simp only [Bank.advanceAllowed, Bank.unheld, Bank.run_modRamp, Bank.hold_modRamp]

/-! ## RAMP_LAG settled -/

/-- RAMP_LAG cleared where it was present. -/
def clearIf (lag : Bool) (t : Tube) (b : Bank) : Bank := if lag then b.clear t .rampLag else b

/-- A ramp with its lag timer at 0 and without RAMP_LAG (R67). -/
def unlagged (r : Ramp) : Ramp := { r with lagTimer := 0, lag := false }

theorem clearIf_modRamp (lag : Bool) (f : Ramp → Ramp) :
    (clearIf lag t b).modRamp t f = clearIf lag t (b.modRamp t f) := by
  cases lag
  · rfl
  · exact (clear_modRamp ..).symm

theorem ramp_clearIf (lag : Bool) : (clearIf lag t b).ramp t = b.ramp t := by
  cases lag
  · rfl
  · exact ramp_clear _

theorem advanceAllowed_clearIf (lag : Bool) : (clearIf lag t b).advanceAllowed t = b.advanceAllowed t := by
  cases lag
  · rfl
  · simp only [clearIf, if_true, Bank.advanceAllowed, run_clear, unheld_clear]

theorem settleLag_eq : b.settleLag t = clearIf (b.ramp t).lag t (b.modRamp t unlagged) := by
  cases h : (b.ramp t).lag with
  | false =>
    rw [Bank.settleLag_nolag h]
    exact Bank.modRamp_congr (by simp [unlagged, h])
  | true =>
    unfold Bank.settleLag Bank.clearLag
    rw [if_pos (by simpa using h), Bank.modRamp_modRamp]
    rfl

/-- Settling a lag again, once it has been settled, only writes the record. -/
theorem settleLag_modRamp_unlagged {f : Ramp → Ramp} {lag : Bool} (absent : (f (b.ramp t)).lag = false) :
    (clearIf lag t (b.modRamp t f)).settleLag t = clearIf lag t (b.modRamp t fun r => unlagged (f r)) := by
  rw [settleLag_eq, ramp_clearIf, Bank.ramp_modRamp_self, absent, clearIf_modRamp, Bank.modRamp_modRamp]
  rfl

/-! ## Jump and advance -/

/-- The ramp after the jump of R56, which ends it. -/
def jumped (r : Ramp) : Ramp := { r with zones := r.zones.map RampZone.jump, inProgress := false }

/-- The ramp with every zone moved by one control period (R62). -/
def moved (period : Nat) (r : Ramp) : Ramp :=
  { r with zones := r.zones.map fun z => z.advance (rampIncrement r.rate period) }

/-- The ramp after the advance of R62, which ends it where every zone is reached. -/
def advanced (period : Nat) (r : Ramp) : Ramp := { moved period r with inProgress := !(moved period r).allReached }

theorem jump_reached (z : RampZone) : z.jump.reached = true := by
  unfold RampZone.jump
  split <;> simp_all

theorem jumpRamp_eq : b.jumpRamp t = (b.modRamp t jumped).settleLag t := by
  have reached : Ramp.allReached { b.ramp t with zones := (b.ramp t).zones.map RampZone.jump } = true := by
    rw [Ramp.allReached, allZones_all_iff]
    simp [jump_reached]
  unfold Bank.jumpRamp Bank.endIfReached
  rw [Bank.ramp_modRamp_self, if_pos reached, Bank.modRamp_modRamp]
  rfl

theorem advanceRamp_eq {period : Nat} (h : (b.ramp t).inProgress = true) :
    b.advanceRamp t period = if (moved period (b.ramp t)).allReached then (b.modRamp t (advanced period)).settleLag t
      else b.modRamp t (advanced period) := by
  have step : b.advanceRamp t period = (b.modRamp t (moved period)).endIfReached t := rfl
  rw [step, Bank.endIfReached, Bank.ramp_modRamp_self, Bank.modRamp_modRamp]
  cases ends : (moved period (b.ramp t)).allReached with
  | false =>
    have stays : (moved period (b.ramp t)).inProgress = !(moved period (b.ramp t)).allReached := by rw [ends]; exact h
    exact Bank.modRamp_congr (by rw [advanced, ← stays])
  | true =>
    exact congrArg (Bank.settleLag t) (Bank.modRamp_congr (by rw [advanced, ends]; rfl))

/-- A lag settled before an advance is one settled after it: the advance neither reads nor writes it. -/
theorem advanceRamp_settleLag {period : Nat} (h : (b.ramp t).inProgress = true) :
    (b.settleLag t).advanceRamp t period = (b.modRamp t (advanced period)).settleLag t := by
  have ramp : (b.settleLag t).ramp t = unlagged (b.ramp t) := by
    rw [settleLag_eq, ramp_clearIf, Bank.ramp_modRamp_self]
  have after : (b.modRamp t (advanced period)).settleLag t
      = clearIf (b.ramp t).lag t (b.modRamp t fun r => unlagged (advanced period r)) := by
    rw [settleLag_eq, Bank.ramp_modRamp_self, Bank.modRamp_modRamp]
    rfl
  have early : (b.settleLag t).modRamp t (advanced period)
      = clearIf (b.ramp t).lag t (b.modRamp t fun r => unlagged (advanced period r)) := by
    rw [settleLag_eq, clearIf_modRamp, Bank.modRamp_modRamp]
    rfl
  rw [advanceRamp_eq (by rw [ramp]; exact h), early, after, settleLag_modRamp_unlagged rfl]
  exact ite_self _

/-! ## A ramp start (R54 to R56) -/

variable {o : RampOrder}

/-- The report of a clamped zone (R54). -/
def clampReport (b : Bank) (t : Tube) (o : RampOrder) (z : Zone) : Report :=
  ⟨b.clock, some t, .targetClamped, 3, some (z.val + 1), some (o.asked z), some (b.rampTarget t o z)⟩

/-- The reports of the clamped zones, in zone order: no report moves a target or the clock. -/
theorem reportClamps_eq : b.reportClamps t o = { b with
    outbox := b.outbox ++ (allZones.filter fun z => b.rampTarget t o z ≠ o.asked z).map (clampReport b t o) } := by
  unfold Bank.reportClamps
  induction allZones generalizing b with
  | nil => simp
  | cons z l ih =>
    rw [List.foldl_cons]
    by_cases kept : b.rampTarget t o z = o.asked z
    · rw [if_pos kept, ih, List.filter_cons_of_neg (by simpa using kept)]
    · rw [if_neg kept, ih, List.filter_cons_of_pos (by simpa using kept), List.map_cons, List.append_cons]
      rfl

/-- The clamped target of a configured tube (R54). -/
theorem rampTarget_configured {c : ZonesConfig} (configured : (b.tube t).zonesConfig = some c) (z : Zone) :
    b.rampTarget t o z = if o.asked z < 0 then 0
      else if c.zones[z].maxSetpoint < o.asked z then c.zones[z].maxSetpoint else o.asked z := by
  simp only [Bank.rampTarget, clamp, Bank.maxSetpoint, configured]

theorem ramp_reportClamps : (b.reportClamps t o).ramp t = b.ramp t := by
  rw [reportClamps_eq]
  rfl

theorem advanceAllowed_reportClamps : (b.reportClamps t o).advanceAllowed t = b.advanceAllowed t := by
  rw [reportClamps_eq]
  rfl

/-- The ramp record as a start of `o` replaces it, its lag settled (R55). -/
def replaced (b : Bank) (t : Tube) (o : RampOrder) (r : Ramp) : Ramp :=
  unlagged (r.restart o (Vector.ofFn fun z => b.rampTarget t o z))

/-- A start before the jump that may follow it. -/
def restarted (b : Bank) (t : Tube) (o : RampOrder) : Bank :=
  clearIf (b.ramp t).lag t ((b.reportClamps t o).modRamp t (replaced b t o))

theorem startRamp_eq : b.startRamp t o =
    if (replaced b t o (b.ramp t)).inProgress ∧ o.rate = 0 ∧ b.advanceAllowed t then (restarted b t o).jumpRamp t
    else restarted b t o := by
  have settled : ((b.reportClamps t o).modRamp t fun r =>
      r.restart o (Vector.ofFn fun z => b.rampTarget t o z)).settleLag t = restarted b t o := by
    rw [settleLag_eq, Bank.ramp_modRamp_self, Bank.modRamp_modRamp, ramp_reportClamps]
    rfl
  have ramp : (restarted b t o).ramp t = replaced b t o (b.ramp t) := by
    rw [restarted, ramp_clearIf, Bank.ramp_modRamp_self, ramp_reportClamps]
  have allowed : (restarted b t o).advanceAllowed t = b.advanceAllowed t := by
    rw [restarted, advanceAllowed_clearIf, advanceAllowed_modRamp, advanceAllowed_reportClamps]
  unfold Bank.startRamp
  dsimp only
  rw [settled, ramp, allowed]
  rfl

/-- The zones of a start at which nothing jumps (R55 steps 2 and 3). -/
def startZones (b : Bank) (t : Tube) (o : RampOrder) : Vector RampZone 3 := Vector.ofFn fun z =>
  let a := (b.ramp t).zones[z].accumulator
  ⟨a, a, b.rampTarget t o z, decide (a = b.rampTarget t o z * 65536)⟩

/-- The zones of a start that jumps (R56). -/
def jumpZones (b : Bank) (t : Tube) (o : RampOrder) : Vector RampZone 3 := Vector.ofFn fun z =>
  ⟨b.rampTarget t o z * 65536, (b.ramp t).zones[z].accumulator, b.rampTarget t o z, true⟩

/-- A start of `o` that leaves the ramp at `zones`, in progress or not. -/
def started (b : Bank) (t : Tube) (o : RampOrder) (zones : Vector RampZone 3) (inProgress : Bool) : Bank :=
  clearIf (b.ramp t).lag t ((b.reportClamps t o).modRamp t fun r => { r with
    kind := o.kind, rate := o.rate, band := o.band, lagLimit := o.lagLimit, zones := zones
    inProgress := inProgress, lagTimer := 0, lag := false })

theorem replaced_eq : replaced b t o (b.ramp t) = { b.ramp t with
    kind := o.kind, rate := o.rate, band := o.band, lagLimit := o.lagLimit, zones := startZones b t o
    inProgress := allZones.any fun z => (b.ramp t).zones[z].accumulator ≠ b.rampTarget t o z * 65536
    lagTimer := 0, lag := false } := by
  have zones : (Vector.ofFn fun z : Zone => (b.ramp t).zones[z].restart
      (Vector.ofFn fun z => b.rampTarget t o z)[z]) = startZones b t o := by
    simp [RampZone.restart, startZones]
  simp only [replaced, unlagged, Ramp.restart, Ramp.allReached, zones]
  congr 1
  simp [startZones, List.not_all_eq_any_not]

theorem restarted_eq : restarted b t o = started b t o (startZones b t o)
    (allZones.any fun z => (b.ramp t).zones[z].accumulator ≠ b.rampTarget t o z * 65536) := by
  refine congrArg (clearIf _ t) (Bank.modRamp_congr ?_)
  rw [ramp_reportClamps]
  exact replaced_eq

theorem jump_startZones : (startZones b t o).map RampZone.jump = jumpZones b t o := by
  apply Vector.ext
  intro i hi
  simp only [startZones, jumpZones, Vector.getElem_map, Vector.getElem_ofFn, RampZone.jump, RampZone.goal]
  split <;> simp_all

theorem jump_restarted : (restarted b t o).jumpRamp t = started b t o (jumpZones b t o) false := by
  rw [jumpRamp_eq, restarted, clearIf_modRamp, Bank.modRamp_modRamp, settleLag_modRamp_unlagged rfl]
  refine congrArg (clearIf _ t) (Bank.modRamp_congr ?_)
  rw [ramp_reportClamps, replaced_eq, ← jump_startZones]
  rfl

/-- Zones that stand at their targets stand where a jump would take them. -/
theorem startZones_of_standing (h : ∀ z, (b.ramp t).zones[z].accumulator = b.rampTarget t o z * 65536) :
    startZones b t o = jumpZones b t o := by
  unfold startZones jumpZones
  congr
  funext z
  simpa using h z

/-- A rate-0 start whose advance is allowed comes to its targets, whether it jumps or stands at them already (R56). -/
theorem startRamp_jump (rate : o.rate = 0) (allowed : b.advanceAllowed t = true) :
    b.startRamp t o = started b t o (jumpZones b t o) false := by
  rw [startRamp_eq]
  by_cases inProgress : (replaced b t o (b.ramp t)).inProgress = true
  · rw [if_pos ⟨inProgress, rate, allowed⟩]
    exact jump_restarted
  · have stands : (allZones.any fun z => (b.ramp t).zones[z].accumulator ≠ b.rampTarget t o z * 65536) = false := by
      rw [replaced_eq] at inProgress
      exact Bool.not_eq_true _ ▸ inProgress
    have standing : ∀ z, (b.ramp t).zones[z].accumulator = b.rampTarget t o z * 65536 := by
      simpa [allZones, forall_zone] using stands
    rw [if_neg (fun h => inProgress h.1), restarted_eq, stands, startZones_of_standing standing]

theorem startRamp_stay (h : o.rate ≠ 0 ∨ ¬ b.advanceAllowed t = true) : b.startRamp t o = restarted b t o := by
  rw [startRamp_eq, if_neg]
  rintro ⟨-, rate, allowed⟩
  rcases h with h | h
  · exact h rate
  · exact h allowed

/-- Settles O27: a rate-0 start comes to its targets where its advance is allowed, and every other start stays as the ramp
record was replaced. -/
theorem rampStarts : Obligations.RampStarts := by
  intro b t o c configured asked Z A allowed reported settled started
  have targets : Z = fun z => b.rampTarget t o z := funext fun z => (rampTarget_configured configured z).symm
  clear_value Z
  subst targets
  have reports : reported = b.reportClamps t o := reportClamps_eq.symm
  clear_value reported
  subst reports
  refine ⟨fun rate h => startRamp_jump rate (Bank.advanceAllowed_iff.mpr h), fun h => ?_⟩
  rw [startRamp_stay (by rwa [Bank.advanceAllowed_iff]), restarted_eq]
  rfl

/-! ## SET IDLE TEMPERATURE (R58) -/

theorem within_iff (x lo hi : Int) : within x lo hi = true ↔ lo ≤ x ∧ x ≤ hi := by
  simp [within]

theorem idleRamp_eq (target : Int) (rate : Nat) : idleRamp target rate = ⟨.idle, target, rate, #v[0, 0, 0], 0, 0⟩ := rfl

theorem setIdleTemperature_notIdle {p : List Byte} (h : (b.run t).state ≠ .idle) :
    b.setIdleTemperature t p = (b, [0x14]) := if_pos h

theorem setIdleTemperature_badField {p : List Byte} (idle : (b.run t).state = .idle)
    (h : s24 p 1 < 0 ∨ 140000 < s24 p 1 ∨ 3000 < u16 p 4) : b.setIdleTemperature t p = (b, [0x12]) := by
  have field : within (s24 p 1) 0 140000 = false ∨ 3000 < u16 p 4 := by
    rw [← Bool.not_eq_true, within_iff]
    omega
  unfold Bank.setIdleTemperature
  rw [if_neg (fun h => h idle), if_pos field]
  rfl

theorem setIdleTemperature_taken {p : List Byte} (idle : (b.run t).state = .idle) (low : 0 ≤ s24 p 1)
    (high : s24 p 1 ≤ 140000) (rate : u16 p 4 ≤ 3000) :
    b.setIdleTemperature t p = (b.startRamp t ⟨.idle, s24 p 1, u16 p 4, #v[0, 0, 0], 0, 0⟩, [0x00]) := by
  have field : ¬ (within (s24 p 1) 0 140000 = false ∨ 3000 < u16 p 4) := by
    rw [← Bool.not_eq_true, within_iff]
    omega
  unfold Bank.setIdleTemperature
  rw [if_neg (fun h => h idle), if_neg field, idleRamp_eq]
  rfl

/-- A SET IDLE TEMPERATURE on a tube that has left UNCONFIGURED is answered with its owner's decision. -/
theorem exec_setIdleTemperature {s : State} {tag : Byte} {p : List Byte} (takes : s.takesTube p 6 t)
    (state : (s.bank.run t).state ≠ .unconfigured) {d : Bank} {reply : List Byte}
    (decision : s.bank.hunting.setIdleTemperature t p = (d, reply)) :
    exec (.setIdleTemperature tag p) s = .next (s.decided .setIdleTemperature tag d reply) := by
  obtain ⟨room, length, tube⟩ := takes
  have taken := takeTubeRequest_owner (tag := tag) (r := .setIdleTemperature) (owner := Bank.setIdleTemperature) room
    (decide_eq_true length) tube (fun h => absurd h state)
  rw [decision] at taken
  exact congrArg (fun b => Host.Outcome.next { s with bank := b }) taken

theorem exec_setIdleTemperature_unconfigured {s : State} {tag : Byte} {p : List Byte} (takes : s.takesTube p 6 t)
    (state : (s.bank.run t).state = .unconfigured) :
    exec (.setIdleTemperature tag p) s = .next (s.decided .setIdleTemperature tag s.bank.hunting [0x14]) := by
  obtain ⟨room, length, tube⟩ := takes
  have refused := takeTubeRequest_unconfigured (tag := tag) (r := .setIdleTemperature)
    (owner := Bank.setIdleTemperature) room (decide_eq_true length) tube state rfl
  exact congrArg (fun b => Host.Outcome.next { s with bank := b }) refused

/-- Settles O28: outside IDLE the common checks or the owner refuse with BAD_STATE; inside it the two ranges decide. -/
theorem setIdleTemperature : Obligations.SetIdleTemperature := by
  intro s tag p t takes
  have configured (idle : (s.bank.run t).state = .idle) : (s.bank.run t).state ≠ .unconfigured := by simp [idle]
  refine ⟨fun state => ?_, fun idle h => ?_, fun idle low high rate => ?_⟩
  · by_cases unconfigured : (s.bank.run t).state = .unconfigured
    · exact exec_setIdleTemperature_unconfigured takes unconfigured
    · exact exec_setIdleTemperature takes unconfigured (setIdleTemperature_notIdle state)
  · exact exec_setIdleTemperature takes (configured idle) (setIdleTemperature_badField idle h)
  · exact exec_setIdleTemperature takes (configured idle) (setIdleTemperature_taken idle low high rate)

/-! ## A zone's advance (R62) -/

/-- A zone's advance without its clamp to the target: it is reached when the increment takes it there or beyond. -/
theorem advance_eq (z : RampZone) (I : Int) : z.advance I =
    if z.reached then z
    else if z.accumulator < z.target * 65536 then
      { z with accumulator := min (z.accumulator + I) (z.target * 65536)
               reached := decide (z.target * 65536 ≤ z.accumulator + I) }
    else { z with accumulator := max (z.accumulator - I) (z.target * 65536)
                  reached := decide (z.accumulator - I ≤ z.target * 65536) } := by
  unfold RampZone.advance RampZone.goal
  by_cases reached : z.reached = true
  · rw [if_pos reached, if_pos reached]
  · rw [if_neg reached, if_neg reached]
    by_cases below : z.accumulator < z.target * 65536
    · have meets : min (z.accumulator + I) (z.target * 65536) = z.target * 65536
          ↔ z.target * 65536 ≤ z.accumulator + I := by omega
      simp only [if_pos below, meets]
    · have meets : max (z.accumulator - I) (z.target * 65536) = z.target * 65536
          ↔ z.accumulator - I ≤ z.target * 65536 := by omega
      simp only [if_neg below, meets]

/-! ## The ramp's part of an expiry (R60, R62, R64 to R66) -/

section expiry

variable {pub : Publisher} {period : Nat}

theorem rampAtExpiry_ended (h : (b.ramp t).inProgress = false) : b.rampAtExpiry pub t period = b := if_pos h

theorem rampAtExpiry_jump (h : (b.ramp t).inProgress = true) (allowed : b.advanceAllowed t = true)
    (rate : (b.ramp t).rate = 0) : b.rampAtExpiry pub t period = (b.modRamp t jumped).settleLag t := by
  unfold Bank.rampAtExpiry
  simp [h, allowed, rate, jumpRamp_eq]

theorem rampAtExpiry_advance (h : (b.ramp t).inProgress = true) (allowed : b.advanceAllowed t = true)
    (rate : (b.ramp t).rate ≠ 0) (passes : (b.ramp t).band ≤ 0 ∨ b.guaranteePasses t = true) :
    b.rampAtExpiry pub t period = if 0 < (b.ramp t).band ∨ (moved period (b.ramp t)).allReached = true
      then (b.modRamp t (advanced period)).settleLag t else b.modRamp t (advanced period) := by
  unfold Bank.rampAtExpiry
  by_cases band : 0 < (b.ramp t).band
  · have passes : b.guaranteePasses t = true := passes.resolve_left (by omega)
    simp [h, allowed, rate, band, passes, advanceRamp_settleLag h]
  · simp [h, allowed, rate, band, advanceRamp_eq h]

theorem rampAtExpiry_fail (h : (b.ramp t).inProgress = true) (allowed : b.advanceAllowed t = true)
    (rate : (b.ramp t).rate ≠ 0) (band : 0 < (b.ramp t).band) (fails : ¬ b.guaranteePasses t = true) :
    b.rampAtExpiry pub t period = b.failGuarantee pub t period := by
  unfold Bank.rampAtExpiry
  simp [h, allowed, rate, band, fails]

theorem rampAtExpiry_halted (h : (b.ramp t).inProgress = true) (allowed : ¬ b.advanceAllowed t = true) :
    b.rampAtExpiry pub t period
      = if 0 < (b.ramp t).band ∧ b.guaranteePasses t = true then b.settleLag t else b := by
  unfold Bank.rampAtExpiry
  simp [h, allowed]

/-- The lag timer one control period later (R65). -/
def lagTimerAfter (b : Bank) (t : Tube) (period : Nat) : Nat := min ((b.ramp t).lagTimer + period) 4294967295

/-- Below the lag limit, without one, or with RAMP_LAG present already, a failing test only counts (R65). -/
theorem failGuarantee_counts (h : (b.ramp t).lagLimit = 0 ∨ lagTimerAfter b t period < (b.ramp t).lagLimit * 1024
      ∨ (b.ramp t).lag = true) :
    b.failGuarantee pub t period = b.modRamp t fun r => { r with lagTimer := lagTimerAfter b t period } := by
  unfold Bank.failGuarantee
  rw [if_neg]
  · exact Bank.modRamp_congr rfl
  · rw [Bank.ramp_modRamp_self]
    rintro ⟨limited, reached, absent⟩
    rcases h with h | h | h
    · exact limited h
    · exact absurd reached (Nat.not_le.mpr h)
    · exact absurd h (by simpa using absent)

theorem failGuarantee_raises (limited : (b.ramp t).lagLimit ≠ 0)
    (reached : (b.ramp t).lagLimit * 1024 ≤ lagTimerAfter b t period) (absent : (b.ramp t).lag = false) :
    b.failGuarantee pub t period
      = (b.modRamp t fun r => { r with lagTimer := lagTimerAfter b t period, lag := true }).raise pub t .rampLag 4 := by
  unfold Bank.failGuarantee
  rw [if_pos]
  · rw [Bank.modRamp_modRamp]
    exact congrArg (Bank.raise pub t .rampLag 4) (Bank.modRamp_congr rfl)
  · rw [Bank.ramp_modRamp_self]
    exact ⟨limited, reached, absent⟩

end expiry

/-! ## Stabilization (R68) -/

/-- A zone's control reading lies within `x` of its setpoint. -/
abbrev near (b : Bank) (t : Tube) (z : Zone) (x : Int) : Prop :=
  (b.control t z).value - ((b.ramp t).zones[z].accumulator + 32768) / 65536 ≤ x
    ∧ ((b.ramp t).zones[z].accumulator + 32768) / 65536 - (b.control t z).value ≤ x

theorem settled_iff (S : Int) : b.settled t S = true ↔
    ((b.ramp t).inProgress = false ∨ ∀ z : Zone, (b.ramp t).zones[z].reached = true)
      ∧ ∀ z, (b.control t z).status = .good ∧ near b t z S := by
  simp only [Bank.settled, Ramp.allReached, Bool.and_eq_true, Bool.or_eq_true, Bool.not_eq_true', allZones_all_iff,
    ChannelRecord.isGood, decide_eq_true_eq, distance_le_iff, near, Bank.setpoint, roundedSetpoint]

theorem unheld_iff : b.unheld t = true ↔ (b.hold t).stack = [] := List.isEmpty_iff

/-- A step without a stability part has no timer to judge; with one, the timer is judged while the step is ACTIVE and
unheld. -/
theorem judgeStability_eq {period : Nat} : b.judgeStability t period =
    match (b.currentRecord t).bind (·.stability) with
    | none => b
    | some q =>
      if (b.run t).state = .running ∧ (b.run t).phase = .active ∧ (b.hold t).stack = [] then
        b.modRamp t fun r => { r with
          stabTimer := if ((b.ramp t).inProgress = false ∨ ∀ z : Zone, (b.ramp t).zones[z].reached = true)
                ∧ ∀ z, (b.control t z).status = .good ∧ near b t z q.band
            then min ((b.ramp t).stabTimer + period) 4294967295 else 0 }
      else b := by
  unfold Bank.judgeStability
  cases (b.currentRecord t).bind (·.stability) with
  | none => rfl
  | some q =>
    simp only [settled_iff, unheld_iff]
    rfl

/-! ## A control-period expiry -/

/-- The lag settled as R67 says it: the lag timer to 0, and a present RAMP_LAG cleared. -/
theorem settleLag_cases : b.settleLag t =
    if (b.ramp t).lag = true then (b.modRamp t fun r => { r with lagTimer := 0, lag := false }).clear t .rampLag
    else b.modRamp t fun r => { r with lagTimer := 0 } := by
  cases lag : (b.ramp t).lag with
  | false => exact Bank.settleLag_nolag lag
  | true =>
    rw [settleLag_eq, lag]
    rfl

theorem exec_rampExpiry_unconfigured {s : State} (h : (s.bank.tube t).zonesConfig = none) :
    exec (.rampExpiry t) s = .next (s.after s.bank) := by
  have none : s.bank.expiringPeriod t = none := by simp [Bank.expiringPeriod, h]
  have expiry : s.bank.rampExpiry publish t = s.bank := by simp only [Bank.rampExpiry, none]
  exact congrArg (fun b => Host.Outcome.next (s.after b)) expiry

/-- An expiry is the ramp's part and then the judgement of the stabilization timer. -/
theorem exec_rampExpiry {s : State} {P : Nat} (period : s.bank.expiringPeriod t = some P) {b : Bank}
    (ramp : s.bank.rampAtExpiry publish t P = b) :
    exec (.rampExpiry t) s = .next (s.after (b.judgeStability t P)) := by
  have expiry : s.bank.rampExpiry publish t = b.judgeStability t P := by simp only [Bank.rampExpiry, period, ramp]
  exact congrArg (fun b => Host.Outcome.next (s.after b)) expiry

/-- Settles O29, clause by clause of the ramp's part at an expiry, each followed by the judgement of stabilization. -/
theorem rampExpiry : Obligations.RampExpiry := by
  intro s t
  refine ⟨exec_rampExpiry_unconfigured, ?_⟩
  intro P period r allowed near passes judged settled I moved ends
  have judge : judged = Bank.judgeStability t P := funext fun b => judgeStability_eq.symm
  have settle : ∀ b : Bank, (b.ramp t).lag = r.lag → b.settleLag t = settled b := by
    intro b lag
    rw [settleLag_cases, lag]
  have allows : s.bank.advanceAllowed t = true ↔ allowed := Bank.advanceAllowed_iff
  have guarantee : s.bank.guaranteePasses t = true ↔ passes := Bank.guaranteePasses_iff
  have zone : (fun z => z.advance I) = moved := funext fun z => advance_eq z I
  clear_value judged moved
  subst judge zone
  have ended : (Ramps.moved P (s.bank.ramp t)).allReached = ends := by
    simp only [Ramp.allReached, Ramps.moved, Fin.getElem_fin, Vector.getElem_map]
    rfl
  refine ⟨fun stopped => ?_, fun running allow rate => ?_, fun running allow rate pass => ?_,
    fun running allow rate band fail => ?_, fun running halted => ?_⟩
  · exact exec_rampExpiry period (rampAtExpiry_ended stopped)
  · have jumps := rampAtExpiry_jump (pub := publish) (period := P) running (allows.mpr allow) rate
    exact exec_rampExpiry period (jumps.trans (settle _ (by rw [Bank.ramp_modRamp_self]; rfl)))
  · intro bank
    have advance : s.bank.modRamp t (advanced P) = bank := Bank.modRamp_congr (by rw [advanced, ended]; rfl)
    refine exec_rampExpiry period ?_
    rw [rampAtExpiry_advance running (allows.mpr allow) rate (pass.imp_right guarantee.mpr), ended, ← advance,
      settle _ (by rw [Bank.ramp_modRamp_self]; rfl)]
  · have fails := rampAtExpiry_fail (pub := publish) (period := P) running (allows.mpr allow) rate band
      (fun pass => fail (guarantee.mp pass))
    exact ⟨fun h => exec_rampExpiry period (fails.trans (failGuarantee_counts h)),
      fun limited reached absent => exec_rampExpiry period (fails.trans (failGuarantee_raises limited reached absent))⟩
  · have halts := rampAtExpiry_halted (pub := publish) (period := P) running (fun allow => halted (allows.mp allow))
    refine ⟨fun h => exec_rampExpiry period (halts.trans (if_neg ?_)),
      fun band pass => exec_rampExpiry period (halts.trans ((if_pos ⟨band, guarantee.mpr pass⟩).trans (settle _ rfl)))⟩
    rintro ⟨band, pass⟩
    exact h.elim (Int.not_le.mpr band) (fun fail => fail (guarantee.mp pass))

end Sys2Proof.Proofs.Ramps
end

section
/-! SUPPORT. Proof of the statement about reading the thermocouple records (chapter 5): the owner's decision on READ
READINGS, and what the request comes to once its common checks have passed. -/

namespace Sys2Proof.Proofs.Scanning

open Sys2Proof Sys2Proof.Machine

/-- The owner answers OK with the items of R101 in R189's layout, in every state, and leaves the bank as it is. -/
theorem readReadings_decision (p : List Byte) (b : Bank) :
    b.readReadings p = (b, ([0x00] : List Byte) ++ leBytes 4 b.clock.toNat ++ leBytes 1 b.scanner.position.val
      ++ b.scanner.records.toList.flatMap fun r =>
        leBytes 3 r.value ++ leBytes 1 (16 * r.status.code + r.bad : Nat) ++ leBytes 3 (r.last.getD 0x800000)) := by
  have ok : leBytes 1 Status.ok.code = [0x00] := rfl
  simp only [Bank.readReadings, Bank.answer, Bank.clockBytes, ok, List.append_assoc]
  rfl

/-- READ READINGS has no payload, so that with room for its reply it always reaches its owner (R101, R175). -/
theorem exec_readReadings {s : State} {tag : Byte} {b : Bank} {reply : List Byte} (room : s.hasRoom)
    (decision : s.bank.hunting.readReadings [] = (b, reply)) :
    exec (.readReadings tag []) s = .next (s.decided .readReadings tag b reply) := by
  have taken := takeBankRequest_owner (tag := tag) (r := .readReadings) (p := []) (owner := Bank.readReadings) room rfl
  rw [decision] at taken
  exact congrArg (fun b => Host.Outcome.next { s with bank := b }) taken

/-- Settles O10: the request reaches its owner, which reads what a completed frame has left alone, the clock and the
scanner. -/
theorem readReadings : Obligations.ReadReadings := by
  intro s tag room
  exact exec_readReadings room (readReadings_decision [] s.bank.hunting)

end Sys2Proof.Proofs.Scanning
end

section
/-! SUPPORT. Proofs of the statements about the gate and its limits (chapter 7): the two requests that set a bank setting, and
the end-cap sensor, whose taken pin makes or opens the seal and so closes the gate. -/

namespace Sys2Proof.Proofs.Gates

open Sys2Proof Sys2Proof.Machine

variable {b : Bank} {t : Tube} {pub : Publisher}

/-! ## SET REPORT LEVEL and SET GATE LIMITS (R132, R179) -/

/-- What a request that names no tube answers, once its owner's decision is known (R175, R176). -/
theorem onBank_takeBankRequest {s : State} {r : Req} {tag : Byte} {p reply : List Byte}
    {owner : List Byte → Bank → Decision} (room : s.hasRoom) (length : r.lengthOk p = true)
    (decision : owner p s.bank.hunting = (b, reply)) :
    s.onBank (fun b => b.takeBankRequest r tag p owner) = .next (s.decided r tag b reply) := by
  have taken := takeBankRequest_owner (tag := tag) (owner := owner) room length
  rw [decision] at taken
  exact congrArg (fun b => Host.Outcome.next { s with bank := b }) taken

theorem exec_setReportLevel {s : State} {tag : Byte} {p reply : List Byte} (room : s.hasRoom) (length : p.length = 1)
    (decision : s.bank.hunting.setReportLevel p = (b, reply)) :
    exec (.setReportLevel tag p) s = .next (s.decided .setReportLevel tag b reply) :=
  onBank_takeBankRequest room (decide_eq_true length) decision

theorem exec_setGateLimits {s : State} {tag : Byte} {p reply : List Byte} (room : s.hasRoom) (length : p.length = 5)
    (decision : s.bank.hunting.setGateLimits p = (b, reply)) :
    exec (.setGateLimits tag p) s = .next (s.decided .setGateLimits tag b reply) :=
  onBank_takeBankRequest room (decide_eq_true length) decision

theorem within_eq_false_iff {x lo hi : Int} : within x lo hi = false ↔ x < lo ∨ hi < x := by
  simp only [within, Bool.and_eq_false_iff, decide_eq_false_iff_not, Int.not_le]

/-- Settles O9: each request reaches its owner, whose range test is decided on either side of its ends. -/
theorem bankSettings : Obligations.BankSettings := by
  refine ⟨fun s tag p room length => ⟨fun outside => ?_, fun low high => ?_⟩,
    fun s tag p room length => ⟨fun outside => ?_, fun low high ratio => ?_⟩⟩
  · exact exec_setReportLevel room length (if_pos outside)
  · exact exec_setReportLevel room length (if_neg (by omega))
  · exact exec_setGateLimits room length (if_pos (by rw [within_eq_false_iff]; omega))
  · exact exec_setGateLimits room length (if_neg (by rw [within_eq_false_iff]; omega))

/-! ## The seal (R159) -/

theorem positionDetail_eq (p : Option Nat) : positionDetail p = p.map fun p : Nat => (p : Int) := by
  cases p <;> rfl

theorem sealStands_iff (x : Boat) :
    x.sealStands = true ↔ x.paddle = .stopped ∧ x.sensor = true ∧ ∃ r, x.rail = some r ∧ x.position = some r.inPos := by
  unfold Boat.sealStands
  cases x.rail <;> cases x.position <;> simp [and_assoc]

theorem judgeSeal_same (same : (b.boat t).sealStands = (b.gate t).sealed) : b.judgeSeal pub t = b := if_pos same

theorem judgeSeal_made (stands : (b.boat t).sealStands = true) (broken : (b.gate t).sealed = false) :
    b.judgeSeal pub t = (b.report (some t) .sealMade (positionDetail (b.boat t).position)
      (some (flagDetail (b.boat t).sensor))).sealMade t := by
  simp [Bank.judgeSeal, stands, broken]

theorem judgeSeal_opened (falls : (b.boat t).sealStands = false) (sealed : (b.gate t).sealed = true) :
    b.judgeSeal pub t = (b.report (some t) .sealOpened (positionDetail (b.boat t).position)
      (some (flagDetail (b.boat t).sensor))).sealOpened pub t := by
  simp [Bank.judgeSeal, falls, sealed]

/-! ## The gate closes when the seal opens (R129, R136, R138) -/

theorem flammableFlows_iff : b.flammableFlows t = true ↔
    ∃ c : Channel, b.channelClass t c = .flammable ∧ 0 < (b.gas t).channels[c].effective := by
  have every : ∀ c : Channel, c ∈ allChannels := by decide
  simp [Bank.flammableFlows, every]

/-- The gas that flows is read from the map and from the tube's gas alone (R138). -/
theorem flammableFlows_congr {b' : Bank} (map : b'.gasMap = b.gasMap) (gas : b'.gas t = b.gas t) :
    b'.flammableFlows t = b.flammableFlows t := by
  have cls (c : Channel) : b'.channelClass t c = b.channelClass t c :=
    Bank.channelClass_of b b' t c map (congrArg GasUnit.config gas)
  rw [Bool.eq_iff_iff]
  simp only [flammableFlows_iff, cls, gas]

/-- The bank with the seal open and the credit gone, before the gate is looked at (R129). -/
def unsealed (t : Tube) (b : Bank) : Bank := b.modGate t fun g => { g with sealed := false, credit := 0 }

/-- The bank with the gate closed for an open seal and that reported, before a loss is judged (R136). -/
def shut (t : Tube) (b : Bank) : Bank :=
  (b.modGate t fun g => { g with isOpen := false }).report (some t) .gateClosed (some 1)

theorem isOpen_unsealed : ((unsealed t b).gate t).isOpen = (b.gate t).isOpen := by simp [unsealed]

theorem flammableFlows_unsealed : (unsealed t b).flammableFlows t = b.flammableFlows t :=
  flammableFlows_congr rfl (Bank.gas_modGate ..)

theorem lost_shut_unsealed : ((shut t (unsealed t b)).gate t).lost = (b.gate t).lost := by simp [shut, unsealed]

theorem sealOpened_closed (closed : (b.gate t).isOpen = false) : b.sealOpened pub t = unsealed t b := by
  refine if_neg ?_
  rw [← unsealed, isOpen_unsealed, closed]
  exact Bool.false_ne_true

/-- An open gate closes with cause SEAL, and the loss is judged on the hydrogen that flowed (R136, R138). -/
theorem sealOpened_open (wasOpen : (b.gate t).isOpen = true) :
    b.sealOpened pub t = (if b.flammableFlows t then (shut t (unsealed t b)).gateLoss pub t
      else shut t (unsealed t b)).formEffective pub t := by
  rw [← flammableFlows_unsealed]
  exact if_pos (isOpen_unsealed.trans wasOpen)

/-- Without flowing hydrogen, or with GATE already present, no GATE is raised (R138). -/
theorem sealOpened_unlost (wasOpen : (b.gate t).isOpen = true)
    (unlost : b.flammableFlows t = false ∨ (b.gate t).lost = true) :
    b.sealOpened pub t = (shut t (unsealed t b)).formEffective pub t := by
  rw [sealOpened_open wasOpen]
  rcases unlost with dry | lost
  · simp [dry]
  · simp [Bank.gateLoss, lost_shut_unsealed, lost]

theorem sealOpened_lost (wasOpen : (b.gate t).isOpen = true) (flows : b.flammableFlows t = true)
    (absent : (b.gate t).lost = false) : b.sealOpened pub t =
      (((shut t (unsealed t b)).modGate t fun g => { g with lost := true }).raise pub t .gate 6).formEffective pub t := by
  rw [sealOpened_open wasOpen]
  simp [flows, Bank.gateLoss, lost_shut_unsealed, absent]

/-! ## The end-cap sensor (R159) -/

theorem exec_sealSensorChange_same {s : State} {closed : Bool} (same : (s.bank.boat t).sensorRaw = closed) :
    exec (.sealSensorChange t closed) s = .next s := by
  have stands : (s.bank.modBoat t fun x => x.sensorPin closed) = s.bank :=
    Bank.modTube_self _ _ _ (congrArg (fun x => { s.bank.tube t with boat := x }) (if_pos same))
  exact congrArg (fun b => Host.Outcome.next { s with bank := b }) stands

theorem exec_sealSensorChange_moved {s : State} {closed : Bool} (moved : (s.bank.boat t).sensorRaw ≠ closed) :
    exec (.sealSensorChange t closed) s =
      .next { s with bank := s.bank.modBoat t fun x => { x with sensorRaw := closed, sensorTime := 0 } } := by
  have kept : (s.bank.modBoat t fun x => x.sensorPin closed)
      = s.bank.modBoat t fun x => { x with sensorRaw := closed, sensorTime := 0 } :=
    Bank.modTube_congr _ _ (congrArg (fun x => { s.bank.tube t with boat := x }) (if_neg moved))
  exact congrArg (fun b => Host.Outcome.next { s with bank := b }) kept

/-- The bank with the sensor's pin taken, before the seal is judged. -/
def sensed (t : Tube) (b : Bank) : Bank := b.modBoat t fun x => { x with sensor := x.sensorRaw, sensorTime := 256 }

theorem boat_sensed : (sensed t b).boat t = { b.boat t with sensor := (b.boat t).sensorRaw, sensorTime := 256 } :=
  Bank.boat_modBoat_self ..

theorem gate_sensed : (sensed t b).gate t = b.gate t := Bank.gate_modBoat ..

theorem exec_sealSensorTaken_same {s : State} (same : (s.bank.boat t).sensorRaw = (s.bank.boat t).sensor) :
    exec (.sealSensorTaken t) s = .next (s.after s.bank) :=
  congrArg (fun b => Host.Outcome.next (s.after b)) (if_pos same : s.bank.takeSensor publish t = s.bank)

theorem exec_sealSensorTaken {s : State} (differs : (s.bank.boat t).sensorRaw ≠ (s.bank.boat t).sensor)
    (judged : (sensed t s.bank).judgeSeal publish t = b) : exec (.sealSensorTaken t) s = .next (s.after b) := by
  have taken : s.bank.takeSensor publish t = b := (if_neg differs).trans judged
  exact congrArg (fun b => Host.Outcome.next (s.after b)) taken

/-- The seal reported made or opened, with the paddle's position and the pin as taken, before it is handed on. -/
def sealReported (k : ReportKind) (t : Tube) (b : Bank) : Bank :=
  (sensed t b).report (some t) k ((b.boat t).position.map fun p : Nat => (p : Int)) (some (flagDetail (b.boat t).sensorRaw))

theorem gate_sealReported (k : ReportKind) : (sealReported k t b).gate t = b.gate t := gate_sensed

theorem flammableFlows_sealReported (k : ReportKind) : (sealReported k t b).flammableFlows t = b.flammableFlows t :=
  flammableFlows_congr rfl ((Bank.gas_report ..).trans (Bank.gas_modBoat ..))

theorem exec_sealSensorTaken_made {s : State} (differs : (s.bank.boat t).sensorRaw ≠ (s.bank.boat t).sensor)
    (stands : ((sensed t s.bank).boat t).sealStands = true) (broken : (s.bank.gate t).sealed = false) :
    exec (.sealSensorTaken t) s = .next (s.after ((sealReported .sealMade t s.bank).sealMade t)) := by
  have judged := judgeSeal_made (pub := publish) stands (by rw [gate_sensed, broken])
  rw [positionDetail_eq, boat_sensed] at judged
  exact exec_sealSensorTaken differs judged

theorem exec_sealSensorTaken_opened {s : State} (differs : (s.bank.boat t).sensorRaw ≠ (s.bank.boat t).sensor)
    (falls : ((sensed t s.bank).boat t).sealStands = false) (sealed : (s.bank.gate t).sealed = true) :
    exec (.sealSensorTaken t) s = .next (s.after ((sealReported .sealOpened t s.bank).sealOpened publish t)) := by
  have judged := judgeSeal_opened (pub := publish) falls (by rw [gate_sensed, sealed])
  rw [positionDetail_eq, boat_sensed] at judged
  exact exec_sealSensorTaken differs judged

/-- Settles O48: the seal is judged on the taken pin, and where it opens, the gate by what it stands at and what flows. -/
theorem sealSensor : Obligations.SealSensor := by
  intro s t closed x
  refine ⟨⟨exec_sealSensorChange_same, exec_sealSensorChange_moved⟩, exec_sealSensorTaken_same, ?_⟩
  intro differs taken position made
  have gate : taken.gate t = s.bank.gate t := gate_sensed
  have stands : (taken.boat t).sealStands = true ↔ made := by
    rw [sealStands_iff, show taken.boat t = _ from boat_sensed]
  refine ⟨fun same => ?_, fun stood broken => ?_, fun fallen sealed => ?_⟩
  · have kept : (taken.boat t).sealStands = (taken.gate t).sealed := by rw [Bool.eq_iff_iff, stands, gate, same]
    exact exec_sealSensorTaken differs (judgeSeal_same kept)
  · have closes : flagDetail (s.bank.boat t).sensorRaw = 1 := if_pos stood.2.1
    have sealing := exec_sealSensorTaken_made differs (stands.mpr stood) broken
    rw [sealReported, closes] at sealing
    exact sealing
  · intro opened shut flows
    have falls : (taken.boat t).sealStands = false := by rwa [← Bool.not_eq_true, stands]
    have opening := exec_sealSensorTaken_opened differs falls sealed
    have flowing : (sealReported .sealOpened t s.bank).flammableFlows t = true ↔ flows := by
      rw [flammableFlows_sealReported, flammableFlows_iff]
    rw [← gate_sealReported .sealOpened]
    refine ⟨fun isShut => ?_, fun wasOpen unlost => ?_, fun wasOpen flow absent => ?_⟩
    · rw [sealOpened_closed isShut] at opening
      exact opening
    · rw [← flowing, Bool.not_eq_true] at unlost
      rw [sealOpened_unlost wasOpen unlost] at opening
      exact opening
    · rw [sealOpened_lost wasOpen (flowing.mpr flow) absent] at opening
      exact opening

end Sys2Proof.Proofs.Gates
end

section
/-! SUPPORT. Proofs of the statements about boat motion (chapter 8): the four requests of the Boat Drive, where an order starts
from rest, a rest, a step of the drive and a mark read. Each operation is first brought to what it does in one case, by a
lemma of its own; the statements are assembled from these. -/

namespace Sys2Proof.Proofs.BoatMotion

open Sys2Proof Sys2Proof.Machine

variable {b : Bank} {t : Tube} {pub : Publisher}

/-! ## Updates of one Boat Drive -/

theorem modBoat_modBoat (f g : Boat → Boat) : (b.modBoat t f).modBoat t g = b.modBoat t fun x => g (f x) := by
  simp only [Bank.modBoat, Bank.modTube_modTube]

theorem modBoat_congr {f g : Boat → Boat} (h : f (b.boat t) = g (b.boat t)) : b.modBoat t f = b.modBoat t g :=
  Bank.modTube_congr _ _ (congrArg (fun x => { b.tube t with boat := x }) h)

theorem modHold_self {f : HoldUnit → HoldUnit} (h : f (b.hold t) = b.hold t) : b.modHold t f = b :=
  Bank.modTube_self _ _ _ (congrArg (fun x => { b.tube t with hold := x }) h)

theorem inMotion_iff (x : PaddleState) : x.inMotion = true ↔ x = .moving ∨ x = .stopping := by
  simp [PaddleState.inMotion]

theorem inMotion_eq_false_iff (x : PaddleState) : x.inMotion = false ↔ x ≠ .moving ∧ x ≠ .stopping := by
  rw [← Bool.not_eq_true, inMotion_iff, not_or]

/-! ## Speed (R150) -/

theorem inZone_iff (r : Rail) (p : Nat) : r.inZone p = true ↔ r.doorZone ≤ p ∧ p ≤ r.inPos := by
  simp [Rail.inZone]

theorem commandedSpeed_eq (r : Rail) (p asked : Nat) : b.commandedSpeed t r p asked =
    if r.doorZone ≤ p ∧ p ≤ r.inPos then min (b.freeSpeed t asked) r.doorSpeed else b.freeSpeed t asked := by
  simp only [Bank.commandedSpeed, zoneSpeed, inZone_iff]

/-- A fold that keeps the greater of two values finds the greatest. -/
theorem foldl_eq_max? {α : Type} (value : α → Int) (keep : Option Int → α → Option Int)
    (first : ∀ z, keep none z = some (value z)) (next : ∀ m z, keep (some m) z = some (max m (value z))) (l : List α) :
    l.foldl keep none = (l.map value).max? := by
  have rest (l : List α) (m : Int) : l.foldl keep (some m) = some ((l.map value).foldl max m) := by
    induction l generalizing m with
    | nil => rfl
    | cons z l ih => rw [List.foldl_cons, next, ih, List.map_cons, List.foldl_cons]
  cases l with
  | nil => rfl
  | cons z l => rw [List.foldl_cons, first, rest, List.map_cons, List.max?_cons']

/-- The control readings of the tube with status GOOD. -/
def goodReadings (b : Bank) (t : Tube) : List Int :=
  (allZones.filter fun z => (b.control t z).isGood).map fun z => (b.control t z).value

theorem hottest_eq : b.hottest t = (goodReadings b t).max? :=
  foldl_eq_max? (fun z => (b.control t z).value) _ (fun _ => rfl) (fun _ _ => rfl) _

theorem mem_goodReadings (x : Int) :
    x ∈ goodReadings b t ↔ ∃ z, (b.control t z).status = .good ∧ (b.control t z).value = x := by
  have every : ∀ z : Zone, z ∈ allZones := by decide
  simp [goodReadings, every, ChannelRecord.isGood]

theorem speedBand_none (bad : ∀ z, (b.control t z).status ≠ .good) : b.speedBand t = 15 := by
  have empty : goodReadings b t = [] := List.eq_nil_iff_forall_not_mem.mpr fun x hx => by
    obtain ⟨z, good, -⟩ := (mem_goodReadings x).mp hx
    exact bad z good
  have unknown : b.hottest t = none := by rw [hottest_eq, empty]; rfl
  simp only [Bank.speedBand, unknown]

/-- The band is the hottest GOOD reading in steps of 10000, held within 0 and 15 (R150). -/
theorem speedBand_eq {z : Zone} {i : Fin 16} (good : (b.control t z).status = .good)
    (hottest : ∀ y, (b.control t y).status = .good → (b.control t y).value ≤ (b.control t z).value)
    (band : (i.val : Int) = if (b.control t z).value < 0 then 0 else min ((b.control t z).value / 10000) 15) :
    b.speedBand t = i := by
  have most : b.hottest t = some (b.control t z).value := by
    rw [hottest_eq, List.max?_eq_some_iff]
    refine ⟨(mem_goodReadings _).mpr ⟨z, good, rfl⟩, fun x hx => ?_⟩
    obtain ⟨y, hy, rfl⟩ := (mem_goodReadings x).mp hx
    exact hottest y hy
  have clamped : clamp ((b.control t z).value / 10000) 0 15 = i.val := by
    unfold clamp
    omega
  apply Fin.ext
  simp only [Bank.speedBand, most, clamped, Int.toNat_natCast]
  exact Nat.mod_eq_of_lt i.isLt

/-! ## Requests that name a tube (R175) -/

/-- What a request that an UNCONFIGURED tube does not take decides: BAD_STATE there, and its owner's decision elsewhere. -/
def ofConfigured (owner : Tube → List Byte → Bank → Decision) (t : Tube) (p : List Byte) (b : Bank) : Decision :=
  if (b.run t).state = .unconfigured then (b, [0x14]) else owner t p b

section requests

variable {s : State} {r : Req} {tag : Byte} {p reply : List Byte} {n : Nat} {owner : Tube → List Byte → Bank → Decision}

theorem ofConfigured_hunting (state : s.configured t) :
    ofConfigured owner t p s.bank.hunting = owner t p s.bank.hunting := if_neg state

/-- An owner that refuses with BAD_STATE refuses so on every tube. -/
theorem ofConfigured_badState (h : (b.run t).state ≠ .unconfigured → owner t p b = (b, [0x14])) :
    ofConfigured owner t p b = (b, [0x14]) := by
  by_cases state : (b.run t).state = .unconfigured
  · exact if_pos state
  · exact (if_neg state).trans (h state)

/-- A request of the right length that finds room for its reply is answered with its decision (R175, R176). -/
theorem onBank_takeTubeRequest (takes : s.takesTube p n t) (length : p.length = n → r.lengthOk p = true)
    (untaken : r.takenUnconfigured = false) (decision : ofConfigured owner t p s.bank.hunting = (b, reply)) :
    s.onBank (fun b => b.takeTubeRequest r tag p owner) = .next (s.decided r tag b reply) := by
  obtain ⟨room, len, tube⟩ := takes
  have taken : s.bank.takeTubeRequest r tag p owner = Bank.conclude (b, reply) (BitVec.ofNat 8 r.code) tag := by
    rw [← decision, ofConfigured, Bank.run_hunting]
    split
    next state => exact takeTubeRequest_unconfigured room (length len) tube state untaken
    next state => exact takeTubeRequest_owner room (length len) tube fun h => absurd h state
  exact congrArg (fun b => Host.Outcome.next { s with bank := b }) taken

theorem exec_clearMotionFault (takes : s.takesTube p 1 t)
    (decision : ofConfigured (Bank.clearMotionFault publish) t p s.bank.hunting = (b, reply)) :
    exec (.clearMotionFault tag p) s = .next (s.decided .clearMotionFault tag b reply) :=
  onBank_takeTubeRequest (r := .clearMotionFault) takes decide_eq_true rfl decision

theorem exec_setSpeedTable (takes : s.takesTube p 33 t)
    (decision : ofConfigured Bank.setSpeedTable t p s.bank.hunting = (b, reply)) :
    exec (.setSpeedTable tag p) s = .next (s.decided .setSpeedTable tag b reply) :=
  onBank_takeTubeRequest (r := .setSpeedTable) takes decide_eq_true rfl decision

theorem exec_locateBoat (takes : s.takesTube p 1 t)
    (decision : ofConfigured (Bank.locateBoat publish) t p s.bank.hunting = (b, reply)) :
    exec (.locateBoat tag p) s = .next (s.decided .locateBoat tag b reply) :=
  onBank_takeTubeRequest (r := .locateBoat) takes decide_eq_true rfl decision

theorem exec_moveBoat (takes : s.takesTube p 5 t)
    (decision : ofConfigured (Bank.moveBoat publish) t p s.bank.hunting = (b, reply)) :
    exec (.moveBoat tag p) s = .next (s.decided .moveBoat tag b reply) :=
  onBank_takeTubeRequest (r := .moveBoat) takes decide_eq_true rfl decision

end requests

/-! ## SET SPEED TABLE (R152) -/

theorem readSpeeds_any_iff (p : List Byte) :
    ((readSpeeds p).toList.any fun v => decide (600 < v)) = true ↔ ∃ i : Fin 16, 600 < u16 p (1 + 2 * i.val) := by
  rw [Vector.any_toList, Vector.any_eq_true]
  simp only [readSpeeds, Vector.getElem_ofFn, decide_eq_true_eq]
  exact ⟨fun ⟨i, h, high⟩ => ⟨⟨i, h⟩, high⟩, fun ⟨i, high⟩ => ⟨i, i.isLt, high⟩⟩

theorem setSpeedTable_badField {p : List Byte} (high : ∃ i : Fin 16, 600 < u16 p (1 + 2 * i.val)) :
    b.setSpeedTable t p = (b, [0x12]) := if_pos ((readSpeeds_any_iff p).mpr high)

theorem setSpeedTable_taken {p : List Byte} (low : ∀ i : Fin 16, u16 p (1 + 2 * i.val) ≤ 600) :
    b.setSpeedTable t p = (b.modBoat t fun x => { x with table := readSpeeds p }, [0x00]) := by
  refine if_neg fun high => ?_
  obtain ⟨i, high⟩ := (readSpeeds_any_iff p).mp high
  exact Nat.not_le.mpr high (low i)

/-- Settles O45: the owner's one test decides the request, and the band is read off the GOOD control readings. -/
theorem speedTable : Obligations.SpeedTable := by
  refine ⟨fun s tag p t takes => ⟨fun state => ?_, fun state high => ?_, fun state low => ?_⟩,
    fun b t asked => ⟨fun bad => ?_, fun z i good hottest band => ?_⟩⟩
  · exact exec_setSpeedTable takes (if_pos state)
  · exact exec_setSpeedTable takes ((ofConfigured_hunting state).trans (setSpeedTable_badField high))
  · exact exec_setSpeedTable takes ((ofConfigured_hunting state).trans (setSpeedTable_taken low))
  · exact congrArg (fun i : Fin 16 => min asked (b.boat t).table[i]) (speedBand_none bad)
  · exact congrArg (fun i : Fin 16 => min asked (b.boat t).table[i]) (speedBand_eq good hottest band)

/-! ## The MOTION condition and CLEAR MOTION FAULT (R154, R155) -/

theorem judgeMotion_same (same : ((b.boat t).paddle = .fault || (b.boat t).unlocWaiting) = (b.boat t).motion) :
    b.judgeMotion pub t = b := if_pos same

theorem judgeMotion_cleared (paddle : (b.boat t).paddle ≠ .fault) (located : (b.boat t).unlocWaiting = false)
    (motion : (b.boat t).motion = true) :
    b.judgeMotion pub t = (b.modBoat t fun x => { x with motion := false }).clear t .motion := by
  simp [Bank.judgeMotion, paddle, located, motion]

theorem clearMotionFault_badState {p : List Byte} (stands : (b.boat t).paddle ≠ .fault) :
    b.clearMotionFault pub t p = (b, [0x14]) := if_pos stands

/-- The bank after a paddle in FAULT has become UNLOCATED, before MOTION is judged (R155). -/
def unfaulted (t : Tube) (b : Bank) : Bank := b.modBoat t fun x => { x with paddle := .unlocated, position := none }

theorem boat_unfaulted : (unfaulted t b).boat t = { b.boat t with paddle := .unlocated, position := none } :=
  Bank.boat_modBoat_self ..

theorem clearMotionFault_taken {p : List Byte} (fault : (b.boat t).paddle = .fault) :
    b.clearMotionFault pub t p = ((unfaulted t b).judgeMotion pub t, [0x00]) := if_neg (fun h => h fault)

theorem clearMotionFault_waiting {p : List Byte} (fault : (b.boat t).paddle = .fault) (motion : (b.boat t).motion = true)
    (waits : (b.boat t).unlocWaiting = true) : b.clearMotionFault pub t p = (unfaulted t b, [0x00]) := by
  rw [clearMotionFault_taken fault, judgeMotion_same (by simp [boat_unfaulted, motion, waits])]

/-- MOTION clears: its record, its frames and its entry are no longer present (R30, R155). -/
theorem clearMotionFault_cleared {p : List Byte} (fault : (b.boat t).paddle = .fault) (motion : (b.boat t).motion = true)
    (located : (b.boat t).unlocWaiting = false) : b.clearMotionFault pub t p =
      (b.modTube t fun x => { x with
        boat := { x.boat with paddle := .unlocated, position := none, motion := false }
        hold := { x.hold with
          records := x.hold.records.set (6 : Fin 12) ⟨false, (x.hold.records[(6 : Fin 12)]).level⟩
          stack := x.hold.stack.map fun f => if f.source = .motion then { f with present := false } else f
          pending := x.hold.pending.map fun e => if e.source = .motion then { e with present := false } else e } },
        [0x00]) := by
  rw [clearMotionFault_taken fault, judgeMotion_cleared (by simp [boat_unfaulted]) (by simp [boat_unfaulted, located])
    (by simp [boat_unfaulted, motion])]
  simp only [unfaulted, Bank.clear, Bank.modBoat, Bank.modHold, Bank.modTube_modTube]
  rfl

/-- Settles O44: the paddle becomes UNLOCATED, and MOTION is then judged on whether an order waits unlocated. -/
theorem clearMotionFault : Obligations.ClearMotionFault := by
  intro s tag p t takes
  refine ⟨fun h => ?_, fun state fault motion => ⟨fun waits => ?_, fun located => ?_⟩⟩
  · exact exec_clearMotionFault takes (ofConfigured_badState fun state => clearMotionFault_badState (h.resolve_left state))
  · exact exec_clearMotionFault takes ((ofConfigured_hunting state).trans (clearMotionFault_waiting fault motion waits))
  · exact exec_clearMotionFault takes ((ofConfigured_hunting state).trans (clearMotionFault_cleared fault motion located))

/-! ## The door-zone window (R158) -/

/-- A window that opens leaves the pending set as it is; one that stands open is left so (R39, R158). -/
theorem judgeWindow_opens (opens : (b.boat t).windowOpen = true) :
    b.judgeWindow pub t = b.modHold t fun h => { h with window := true } := by
  unfold Bank.judgeWindow
  rw [opens]
  by_cases stands : (b.hold t).window = true
  · rw [if_pos stands.symm, modHold_self]
    rw [← stands]
  · rw [if_neg (fun h => stands h.symm)]
    rfl

/-! ## LOCATE BOAT (R146) -/

section locating

variable {asked : Nat} {r : Rail} (locate : (b.boat t).locate = some asked) (rail : (b.boat t).rail = some r)

include locate rail

theorem startLocate_blocked (speed : b.locateSpeed t r asked = 0) : b.startLocate pub t =
    b.modBoat t fun x => { x with blocked := true, speed := 0, band := (b.speedBand t).val } := by
  simp only [Bank.startLocate, locate, rail, speed, if_true]

/-- A locate that sets out opens the window, and leaves a seal that was not made (R146, R158, R159). -/
theorem startLocate_setsOut (speed : b.locateSpeed t r asked ≠ 0) (unsealed : (b.gate t).sealed = false) :
    b.startLocate pub t = (b.modBoat t fun x => { x with
      paddle := .moving, blocked := false, speed := b.locateSpeed t r asked, band := (b.speedBand t).val
      locateTravel := 0 }).modHold t fun h => { h with window := true } := by
  simp only [Bank.startLocate, locate, rail, if_neg speed]
  rw [judgeWindow_opens (by simp [Boat.windowOpen, Boat.locating, locate]),
    Gates.judgeSeal_same (by simp [Boat.sealStands, unsealed])]

end locating

theorem locateBoat_badState {p : List Byte} (h : (b.hold t).level = 7 ∨ (b.boat t).paddle ≠ .unlocated) :
    b.locateBoat pub t p = (b, [0x14]) := by
  unfold Bank.locateBoat
  by_cases level : (b.hold t).level = 7
  · exact if_pos level
  · exact (if_neg level).trans (if_pos (h.resolve_left level))

theorem locateBoat_taken {p : List Byte} (level : (b.hold t).level ≠ 7) (paddle : (b.boat t).paddle = .unlocated) :
    b.locateBoat pub t p = ((b.modBoat t Boat.takeLocate).startLocate pub t, [0x00]) :=
  (if_neg level).trans (if_neg (fun h => h paddle))

section taken

variable {r : Rail} (rail : (b.boat t).rail = some r)

include rail

theorem takeLocate_locate : ((b.modBoat t Boat.takeLocate).boat t).locate = some r.locateSpeed := by
  simp [Boat.takeLocate, rail]

theorem modBoat_takeLocate (f : Boat → Boat) : (b.modBoat t Boat.takeLocate).modBoat t f = b.modBoat t fun x =>
    f { x with locate := some r.locateSpeed, order := x.order.filter fun o => o.kind = .step } := by
  rw [modBoat_modBoat]
  exact modBoat_congr (by simp [Boat.takeLocate, rail])

end taken

/-- The speed of a new locate, read before its order is created: neither the table nor the band is the order's. -/
theorem locateSpeed_takeLocate (r : Rail) (asked : Nat) : (b.modBoat t Boat.takeLocate).locateSpeed t r asked =
    min (min asked (b.boat t).table[b.speedBand t]) r.doorSpeed := by
  have table : ((b.modBoat t Boat.takeLocate).boat t).table = (b.boat t).table := by simp [Boat.takeLocate]
  have band : (b.modBoat t Boat.takeLocate).speedBand t = b.speedBand t := rfl
  simp only [Bank.locateSpeed, zoneSpeed, Bank.freeSpeed, table, band, if_true]

/-- Settles O41: the order is created, and its speed, read from the table as it stood, blocks it or sets the paddle out. -/
theorem locateBoat : Obligations.LocateBoat := by
  intro s tag p t takes
  refine ⟨fun h => ?_, ?_⟩
  · exact exec_locateBoat takes (ofConfigured_badState fun state => locateBoat_badState (h.resolve_left state))
  · intro r state level paddle rail band speed
    have taken := (ofConfigured_hunting state).trans
      (locateBoat_taken (b := s.bank.hunting) (pub := publish) (p := p) level paddle)
    have asked : (s.bank.hunting.modBoat t Boat.takeLocate).locateSpeed t r r.locateSpeed = speed :=
      locateSpeed_takeLocate r r.locateSpeed
    have created := takeLocate_locate (b := s.bank.hunting) rail
    have railed : ((s.bank.hunting.modBoat t Boat.takeLocate).boat t).rail = some r := by simpa [Boat.takeLocate]
    refine ⟨fun stands => ?_, fun runs unsealed => ?_⟩
    · rw [startLocate_blocked created railed (asked.trans stands),
        modBoat_takeLocate (b := s.bank.hunting) rail] at taken
      exact exec_locateBoat takes taken
    · rw [startLocate_setsOut created railed (by omega) (by simpa using unsealed), asked,
        modBoat_takeLocate (b := s.bank.hunting) rail] at taken
      exact exec_locateBoat takes taken

/-! ## Where an order starts from rest (R145) -/

/-- Nothing starts without an order, beside a locate, or while the paddle is in motion (R146, R149). -/
theorem startOrder_waits (h : (b.boat t).order = none ∨ (b.boat t).locate ≠ none ∨ (b.boat t).paddle = .moving
    ∨ (b.boat t).paddle = .stopping) : b.startOrder pub t = b := by
  unfold Bank.startOrder
  dsimp only
  split
  next o r order rail =>
    refine if_pos ?_
    rw [inMotion_iff, ← Option.ne_none_iff_isSome]
    exact h.resolve_left (by simp [order])
  next => rfl

section atRest

variable {o : MoveOrder} {r : Rail} (order : (b.boat t).order = some o) (rail : (b.boat t).rail = some r)
  (locate : (b.boat t).locate = none) (moving : (b.boat t).paddle ≠ .moving) (stopping : (b.boat t).paddle ≠ .stopping)

include locate moving stopping

theorem at_rest : ¬ ((b.boat t).locate.isSome = true ∨ (b.boat t).paddle.inMotion = true) := by
  simp [locate, inMotion_iff, moving, stopping]

include order rail

theorem startOrder_finishes (there : (b.boat t).paddle = .stopped ∧ (b.boat t).position = some o.target)
    (level : b.level t ≤ 6) : b.startOrder pub t = (b.modBoat t fun x => { x with
      order := none, blocked := false, unlocWaiting := false
      motionDone := x.motionDone || (o.kind = .step && o.current) }).report (some t) .motionDone (some o.kind.code)
        (o.step.map fun i => (i.val : Int)) (some (o.target : Nat)) := by
  simp only [Bank.startOrder, order, rail]
  rw [if_neg (at_rest locate moving stopping), if_pos ⟨there.1, there.2, level⟩]
  simp only [Bank.finishAtRest, Bank.reportMotionDone, Bank.boat_modBoat_self, there.2]
  rfl

theorem startOrder_held (away : ¬ ((b.boat t).paddle = .stopped ∧ (b.boat t).position = some o.target) ∨ 7 ≤ b.level t)
    (held : 0 < b.level t) : b.startOrder pub t = b := by
  have goes : ¬ ((b.boat t).paddle = .stopped ∧ (b.boat t).position = some o.target ∧ b.level t ≤ 6) :=
    fun ⟨stopped, position, level⟩ => away.elim (fun h => h ⟨stopped, position⟩) (fun h => by omega)
  simp only [Bank.startOrder, order, rail]
  rw [if_neg (at_rest locate moving stopping), if_neg goes, if_pos held]

/-- Without a position a STEP order waits unlocated, and a HOST order waits without an effect (R145). -/
theorem startOrder_lost (lost : (b.boat t).paddle ≠ .stopped) (level : b.level t = 0) : b.startOrder pub t =
    if o.kind = .step then (b.modBoat t fun x => { x with unlocWaiting := true }).judgeMotion pub t else b := by
  simp only [Bank.startOrder, order, rail]
  rw [if_neg (at_rest locate moving stopping), if_neg (fun h => lost h.1), if_neg (by omega)]
  split
  next stopped _ => exact absurd stopped lost
  next => rfl

theorem startOrder_away {p : Nat} (stopped : (b.boat t).paddle = .stopped) (position : (b.boat t).position = some p)
    (away : p ≠ o.target) (level : b.level t = 0) : b.startOrder pub t =
    if b.commandedSpeed t r p o.speed = 0 then
      b.modBoat t fun x => { x with blocked := true, speed := 0, band := (b.speedBand t).val }
    else ((b.modBoat t fun x => x.setOut o p (b.freeSpeed t o.speed) (b.commandedSpeed t r p o.speed)
      (b.speedBand t)).judgeWindow pub t).judgeSeal pub t := by
  have goes : ¬ ((b.boat t).paddle = .stopped ∧ (b.boat t).position = some o.target ∧ b.level t ≤ 6) := by
    simp [position, away]
  simp only [Bank.startOrder, order, rail]
  rw [if_neg (at_rest locate moving stopping), if_neg goes, if_neg (by omega)]
  simp only [stopped, position]

end atRest

/-! ## The next mark ahead (R149, R153) -/

/-- A search from the end of a range finds the last number that passes. -/
theorem find?_range_reverse {P : Nat → Bool} {n k : Nat} (holds : P k = true) (bound : k < n)
    (last : ∀ j, j < n → P j = true → j ≤ k) : (List.range n).reverse.find? P = some k := by
  induction n with
  | zero => exact absurd bound (Nat.not_lt_zero k)
  | succ n ih =>
    rw [List.range_succ, List.reverse_append, List.reverse_singleton, List.singleton_append, List.find?_cons]
    cases found : P n with
    | true =>
      have top := last n (Nat.lt_succ_self n) found
      exact congrArg some (by omega)
    | false =>
      have ne : k ≠ n := by rintro rfl; exact absurd holds (by simp [found])
      exact ih (by omega) fun j hj => last j (by omega)

theorem hasMark_iff (r : Rail) (k : Nat) : r.hasMark k = true ↔ k * 500 ≤ r.length := decide_eq_true_iff

theorem inWindow_iff (k p : Nat) : inWindow k p = true ↔ k * 500 ≤ p + 20 ∧ p ≤ k * 500 + 20 := by
  simp only [inWindow, Bool.and_eq_true, decide_eq_true_eq]
  rfl

theorem approaches_iff (v : Travel) (r : Rail) (k : Nat) : v.approaches r k = true ↔
    k * 500 ≤ r.length ∧ min v.start v.target ≤ k * 500 ∧ k * 500 ≤ max v.start v.target := by
  simp only [Travel.approaches, Bool.and_eq_true, hasMark_iff, decide_eq_true_eq, and_assoc]
  rfl

theorem unread_iff (v : Travel) (k : Nat) : (!v.marksRead.contains k) = true ↔ k ∉ v.marksRead := by simp

theorem ahead_iff (v : Travel) (r : Rail) (p k : Nat) : v.ahead r p k = true ↔
    k * 500 ≤ r.length ∧ min v.start v.target ≤ k * 500 ∧ k * 500 ≤ max v.start v.target ∧ k ∉ v.marksRead
      ∧ if v.inward then v.start < k * 500 ∧ p ≤ k * 500 + 20 else k * 500 < v.start ∧ k * 500 ≤ p + 20 := by
  unfold Travel.ahead
  cases v.inward <;>
  · simp only [if_true, Bool.false_eq_true, if_false, Bool.and_eq_true, approaches_iff, unread_iff, decide_eq_true_eq,
      and_assoc]
    rfl

/-- Whichever way the paddle travels, no mark ahead is found where there is none. -/
theorem nextMark_none {v : Travel} {r : Rail} {p : Nat} (absent : ∀ k, k ≤ 50 → ¬ v.ahead r p k = true) :
    v.nextMark r p = none := by
  have listed : ∀ k ∈ allMarks, ¬ v.ahead r p k = true := fun k hk => absent k (Nat.lt_succ_iff.mp (List.mem_range.mp hk))
  unfold Travel.nextMark
  split
  · exact List.find?_eq_none.mpr listed
  · exact List.find?_eq_none.mpr fun k hk => listed k (List.mem_reverse.mp hk)

/-- The next mark is the first of those ahead in the direction of travel. -/
theorem nextMark_some {v : Travel} {r : Rail} {p k : Nat} (bound : k ≤ 50) (ahead : v.ahead r p k = true)
    (next : ∀ j, j ≤ 50 → v.ahead r p j = true → if v.inward then k ≤ j else j ≤ k) : v.nextMark r p = some k := by
  unfold Travel.nextMark
  cases inward : v.inward with
  | true =>
    refine List.find?_range_eq_some.mpr ⟨ahead, List.mem_range.mpr (Nat.lt_succ_iff.mpr bound), fun j hj => ?_⟩
    rw [Bool.not_eq_true', ← Bool.not_eq_true]
    intro h
    have first := next j (by omega) h
    rw [inward, if_pos rfl] at first
    omega
  | false =>
    refine find?_range_reverse ahead (Nat.lt_succ_iff.mpr bound) fun j hj h => ?_
    have last := next j (Nat.lt_succ_iff.mp hj) h
    rwa [inward, if_neg Bool.false_ne_true] at last

theorem stoppingPoint_none {v : Travel} {r : Rail} {p : Nat} (next : v.nextMark r p = none) :
    v.stoppingPoint r p = v.target := by
  simp only [Travel.stoppingPoint, next]

theorem stoppingPoint_some {v : Travel} {r : Rail} {p k : Nat} (next : v.nextMark r p = some k) :
    v.stoppingPoint r p = k * 500 := by
  simp only [Travel.stoppingPoint, next]
  rfl

/-! ## A step's motion part (R149) -/

/-- A Boat Drive whose move order is discarded, before MOTION is judged (R144, R154). -/
def unordered (x : Boat) : Boat :=
  { x with order := none, unlocWaiting := false, blocked := x.blocked && x.locate.isSome }

theorem discardOrder_eq : b.discardOrder pub t = (b.modBoat t unordered).judgeMotion pub t := rfl

/-- The motion part's order replaces the order at hand, of which `f` is what a travelling paddle leaves behind. -/
theorem takeMotionPart_eq {i : Slot} {q : MotionPart} {r : Rail} (rail : (b.boat t).rail = some r) {f : Boat → Boat}
    (left : (if (b.boat t).travelling then (b.boat t).leaveBehind else b.boat t) = f (b.boat t)) :
    b.takeMotionPart pub t i q = (((b.modBoat t fun x => unordered (f x)).judgeMotion pub t).modBoat t fun x =>
      { x with order := some ⟨.step, min q.target r.inPos, q.speed, some i, true⟩, motionDone := false }).startOrder
        pub t := by
  have replaced : (b.modBoat t fun x => if (b.boat t).travelling then x.leaveBehind else x).discardOrder pub t
      = (b.modBoat t fun x => unordered (f x)).judgeMotion pub t := by
    have same : (b.modBoat t fun x => unordered (if (b.boat t).travelling then x.leaveBehind else x))
        = b.modBoat t fun x => unordered (f x) := modBoat_congr (congrArg unordered left)
    rw [discardOrder_eq, modBoat_modBoat, same]
  simp only [Bank.takeMotionPart, rail, replaced]

theorem travelling_iff (x : Boat) :
    x.travelling = true ↔ (x.paddle = .moving ∨ x.paddle = .stopping) ∧ x.locate = none := by
  simp [Boat.travelling, inMotion_iff]

theorem leaveBehind_new {x : Boat} {old : MoveOrder} {v : Travel} {r : Rail} {p : Nat} (stopping : x.stopping = none)
    (order : x.order = some old) (rail : x.rail = some r) (travel : x.travel = some v) (position : x.position = some p) :
    x.leaveBehind
      = { x with paddle := .stopping, stopping := some ⟨v.stoppingPoint r p, old.kind, old.step, v.target⟩ } := by
  simp only [Boat.leaveBehind, stopping, order, rail, travel, position]

/-- A stopping record that stands is kept (R149). -/
theorem leaveBehind_kept {x : Boat} (stopping : x.stopping ≠ none) : x.leaveBehind = { x with paddle := .stopping } := by
  unfold Boat.leaveBehind
  split
  next unset _ _ _ _ => exact absurd unset stopping
  next => rfl

/-- Settles O43: each clause is one of the places where an order starts or waits, what a travelling paddle leaves behind, or
what the search for the next mark finds. -/
theorem motionOrders : Obligations.MotionOrders := by
  refine ⟨?_, ?_, ?_⟩
  · intro pub b t x
    refine ⟨startOrder_waits, ?_⟩
    intro o r order rail locate moving stopping there
    refine ⟨startOrder_finishes order rail locate moving stopping, startOrder_held order rail locate moving stopping,
      ?_, ?_⟩
    · intro paddle level
      have lost := startOrder_lost (pub := pub) order rail locate moving stopping
        (by rcases paddle with h | h <;> simp [show (b.boat t).paddle = _ from h]) level
      exact ⟨fun step => lost.trans (if_pos step), fun host => lost.trans (if_neg (by simp [host]))⟩
    · intro p stopped position away level free speed
      have away := startOrder_away (pub := pub) order rail locate moving stopping stopped position away level
      rw [show b.commandedSpeed t r p o.speed = speed from commandedSpeed_eq ..] at away
      exact ⟨fun stands => away.trans (if_pos stands), fun runs => away.trans (if_neg (by omega))⟩
  · intro pub b t i q r rail x o replaced
    refine ⟨fun h => ?_, fun moves locate => ⟨fun old v p stopping order travel position => ?_, fun stopping => ?_⟩⟩
    · refine takeMotionPart_eq rail (f := fun x => x) (if_neg ?_)
      rw [travelling_iff]
      rintro ⟨moves, locate⟩
      exact h.elim (fun ⟨moving, stopping⟩ => moves.elim moving stopping) (fun h => h locate)
    · exact takeMotionPart_eq rail ((if_pos ((travelling_iff _).mpr ⟨moves, locate⟩)).trans
        (leaveBehind_new stopping order rail travel position))
    · exact takeMotionPart_eq rail (f := fun x => { x with paddle := .stopping })
        ((if_pos ((travelling_iff _).mpr ⟨moves, locate⟩)).trans (leaveBehind_kept stopping))
  · intro v r p ahead
    have ahead_of (k : Nat) : ahead k ↔ k ≤ 50 ∧ v.ahead r p k = true := by rw [ahead_iff]
    refine ⟨fun absent => ?_, fun k found next => ?_⟩
    · have next := nextMark_none fun k bound h => absent k ((ahead_of k).mpr ⟨bound, h⟩)
      exact ⟨next, stoppingPoint_none next⟩
    · obtain ⟨bound, found⟩ := (ahead_of k).mp found
      have next := nextMark_some bound found fun j bound h => next j ((ahead_of j).mpr ⟨bound, h⟩)
      exact ⟨next, stoppingPoint_some next⟩

/-! ## MOVE BOAT (R148) -/

section moveRefusal

variable {T v : Nat}

theorem moveRefusal_notIdle (state : (b.run t).state ≠ .idle) : b.moveRefusal t T v = some .badState := if_pos state

section idle

variable (idle : (b.run t).state = .idle)

include idle

theorem moveRefusal_badField (h : 25000 < T ∨ v < 1 ∨ 600 < v) : b.moveRefusal t T v = some .badField :=
  (if_neg (fun h => h idle)).trans (if_pos h)

variable (target : T ≤ 25000) (slow : 1 ≤ v) (fast : v ≤ 600)

include target slow fast

theorem moveRefusal_fields : b.moveRefusal t T v =
    if (b.boat t).paddle = .unlocated ∨ (b.boat t).paddle = .fault then some .unlocated
    else if (b.boat t).paddle.inMotion then some .motionBusy else none :=
  (if_neg (fun h => h idle)).trans (if_neg (by omega))

theorem moveRefusal_unlocated (h : (b.boat t).paddle = .unlocated ∨ (b.boat t).paddle = .fault) :
    b.moveRefusal t T v = some .unlocated :=
  (moveRefusal_fields idle target slow fast).trans (if_pos h)

theorem moveRefusal_motionBusy (h : (b.boat t).paddle = .moving ∨ (b.boat t).paddle = .stopping) :
    b.moveRefusal t T v = some .motionBusy := by
  rw [moveRefusal_fields idle target slow fast]
  rcases h with h | h <;> simp [h, PaddleState.inMotion]

theorem moveRefusal_none (h : (b.boat t).paddle = .stopped) : b.moveRefusal t T v = none := by
  rw [moveRefusal_fields idle target slow fast]
  simp [h, PaddleState.inMotion]

end idle

end moveRefusal

theorem moveBoat_refused {p : List Byte} {c : Status} (h : b.moveRefusal t (u16 p 1) (u16 p 3) = some c) :
    b.moveBoat pub t p = (b, leBytes 1 c.code) := by
  simp only [Bank.moveBoat, h]
  rfl

/-- The bank with a new order in place of the one of a tube, before it is started (R148). -/
def posted (t : Tube) (o : MoveOrder) (b : Bank) : Bank :=
  b.modBoat t fun x => { x with order := some o, unlocWaiting := false, blocked := false }

theorem boat_posted (o : MoveOrder) :
    (posted t o b).boat t = { b.boat t with order := some o, unlocWaiting := false, blocked := false } :=
  Bank.boat_modBoat_self ..

theorem level_posted (o : MoveOrder) : (posted t o b).level t = (b.hold t).published :=
  congrArg HoldUnit.published (Bank.hold_modBoat ..)

theorem modBoat_posted (o : MoveOrder) (f : Boat → Boat) : (posted t o b).modBoat t f =
    b.modBoat t fun x => f { x with order := some o, unlocWaiting := false, blocked := false } := modBoat_modBoat ..

theorem speedBand_posted (o : MoveOrder) : (posted t o b).speedBand t = b.speedBand t := rfl

theorem freeSpeed_posted (o : MoveOrder) (asked : Nat) : (posted t o b).freeSpeed t asked = b.freeSpeed t asked := by
  simp only [Bank.freeSpeed, speedBand_posted, boat_posted]

theorem commandedSpeed_posted (o : MoveOrder) (r : Rail) (p asked : Nat) :
    (posted t o b).commandedSpeed t r p asked = b.commandedSpeed t r p asked := by
  simp only [Bank.commandedSpeed, freeSpeed_posted]

section posted

variable {o : MoveOrder} {r : Rail} {q : Nat} (stopped : (b.boat t).paddle = .stopped) (rail : (b.boat t).rail = some r)
  (position : (b.boat t).position = some q) (locate : (b.boat t).locate = none)

include stopped rail locate

/-- What the start of a posted order turns on: the order, the rail, no locate, and a paddle that stands. -/
theorem posted_stands : ((posted t o b).boat t).order = some o ∧ ((posted t o b).boat t).rail = some r
    ∧ ((posted t o b).boat t).locate = none ∧ ((posted t o b).boat t).paddle ≠ .moving
    ∧ ((posted t o b).boat t).paddle ≠ .stopping := by
  simp [boat_posted, stopped, rail, locate]

include position

theorem startOrder_posted_finishes (host : o.kind = .host) (step : o.step = none) (there : q = o.target)
    (level : (b.hold t).published ≤ 6) : (posted t o b).startOrder pub t = (b.modBoat t fun x =>
      { x with order := none, blocked := false, unlocWaiting := false }).report (some t) .motionDone (some 2) none
        (some (q : Int)) := by
  obtain ⟨ordered, railed, unlocating, moving, stopping⟩ := posted_stands (o := o) stopped rail locate
  have finishes := startOrder_finishes (pub := pub) ordered railed unlocating moving stopping
    (by simp [boat_posted, stopped, position, there]) (by rwa [level_posted])
  rw [modBoat_posted, host, step, ← there] at finishes
  simpa [MoveKind.code] using finishes

theorem startOrder_posted_held (away : q ≠ o.target ∨ (b.hold t).published = 7) (held : 0 < (b.hold t).published) :
    (posted t o b).startOrder pub t = posted t o b := by
  obtain ⟨ordered, railed, unlocating, moving, stopping⟩ := posted_stands (o := o) stopped rail locate
  refine startOrder_held ordered railed unlocating moving stopping (away.imp (fun away there => ?_) fun h => ?_)
    (by rwa [level_posted])
  · rw [boat_posted] at there
    exact away (Option.some.inj (position.symm.trans there.2))
  · exact Nat.le_of_eq ((level_posted o).trans h).symm

theorem startOrder_posted_away (away : q ≠ o.target) (level : (b.hold t).published = 0) :
    (posted t o b).startOrder pub t =
      if b.commandedSpeed t r q o.speed = 0 then b.modBoat t fun x =>
        { x with order := some o, unlocWaiting := false, blocked := true, speed := 0, band := (b.speedBand t).val }
      else ((b.modBoat t fun x => Boat.setOut { x with order := some o, unlocWaiting := false } o q
        (b.freeSpeed t o.speed) (b.commandedSpeed t r q o.speed) (b.speedBand t)).judgeWindow pub t).judgeSeal pub t := by
  obtain ⟨ordered, railed, unlocating, moving, stopping⟩ := posted_stands (o := o) stopped rail locate
  have starts := startOrder_away (pub := pub) ordered railed unlocating moving stopping
    (by rw [boat_posted]; exact stopped) (by rw [boat_posted]; exact position) away (by rwa [level_posted])
  rw [commandedSpeed_posted, freeSpeed_posted, speedBand_posted, modBoat_posted, modBoat_posted] at starts
  exact starts

end posted

/-- A HOST order taken at rest replaces the order at hand, whose discard leaves MOTION as it stands. -/
theorem moveBoat_taken {p : List Byte} {r : Rail} (passes : b.moveRefusal t (u16 p 1) (u16 p 3) = none)
    (stopped : (b.boat t).paddle = .stopped) (rail : (b.boat t).rail = some r) (motion : (b.boat t).motion = false)
    (locate : (b.boat t).locate = none) : b.moveBoat pub t p =
      ((posted t ⟨.host, min (u16 p 1) r.inPos, u16 p 3, none, false⟩ b).startOrder pub t,
        ([0x00] : List Byte) ++ leBytes 2 (min (u16 p 1) r.inPos : Nat)) := by
  have discarded : b.discardOrder pub t = b.modBoat t unordered :=
    judgeMotion_same (by simp [stopped, motion])
  have replaced (o : MoveOrder) : (b.modBoat t unordered).modBoat t (fun x => { x with order := some o }) = posted t o b :=
    (modBoat_modBoat ..).trans (modBoat_congr (by simp [unordered, locate]))
  simp only [Bank.moveBoat, passes, Bank.inPos, rail, discarded, replaced]
  rfl

/-- Settles O42: the first failing check refuses; an order that passes them all is posted and starts, or waits, from rest. -/
theorem moveBoat : Obligations.MoveBoat := by
  intro s tag p t takes T asked refused
  have configured (idle : (s.bank.run t).state = .idle) : s.configured t := by simp [idle]
  have refuse (c : Status) (idle : (s.bank.run t).state = .idle)
      (h : s.bank.hunting.moveRefusal t T asked = some c) : refused (leBytes 1 c.code) :=
    exec_moveBoat takes ((ofConfigured_hunting (configured idle)).trans (moveBoat_refused h))
  refine ⟨fun state => ?_, fun idle fields => ?_, fun idle far slow fast => ⟨fun lost => ?_, fun moves => ?_, ?_⟩⟩
  · exact exec_moveBoat takes (ofConfigured_badState fun _ =>
      moveBoat_refused (b := s.bank.hunting) (moveRefusal_notIdle state))
  · exact refuse .badField idle (moveRefusal_badField idle fields)
  · exact refuse .unlocated idle (moveRefusal_unlocated idle far slow fast lost)
  · exact refuse .motionBusy idle (moveRefusal_motionBusy idle far slow fast moves)
  · intro r q stopped rail position motion locate target done band free speed order
    let o : MoveOrder := ⟨.host, target, asked, none, false⟩
    have finish {c : Bank} (start : (posted t o s.bank.hunting).startOrder publish t = c) : done c := by
      refine exec_moveBoat takes ((ofConfigured_hunting (configured idle)).trans ?_)
      rw [← start]
      exact moveBoat_taken (b := s.bank.hunting) (moveRefusal_none idle far slow fast stopped) stopped rail motion locate
    have commanded : s.bank.hunting.commandedSpeed t r q asked = speed := commandedSpeed_eq ..
    have away (h : q ≠ target) (unheld : (s.bank.hold t).published = 0) := startOrder_posted_away (b := s.bank.hunting)
      (o := o) (pub := publish) stopped rail position locate h unheld
    rw [commanded] at away
    refine ⟨fun there unheld => ?_, fun h held => ?_, fun h unheld stands => ?_, fun h unheld runs => ?_⟩
    · exact finish (startOrder_posted_finishes (b := s.bank.hunting) stopped rail position locate rfl rfl there unheld)
    · exact finish (startOrder_posted_held (b := s.bank.hunting) stopped rail position locate h held)
    · exact finish ((away h unheld).trans (if_pos stands))
    · exact finish ((away h unheld).trans (if_neg (by omega)))

/-! ## Coming to rest (R156) -/

/-- A Boat Drive whose paddle stands, with the order, the blocked flag and MOTION_DONE that its rest leaves. -/
def standing (order : Option MoveOrder) (blocked done : Bool) (x : Boat) : Boat :=
  { x with paddle := .stopped, travel := none, stopping := none, speed := 0
           order := order, blocked := blocked, motionDone := done }

/-- The bank after a rest, with the window judged, before MOTION_DONE and the seal (R156, R158). -/
def rested (pub : Publisher) (t : Tube) (order : Option MoveOrder) (blocked done : Bool) (b : Bank) : Bank :=
  (b.modBoat t (standing order blocked done)).judgeWindow pub t

/-- The bank with MOTION_DONE reported and the seal then judged (R156). -/
def finishing (pub : Publisher) (t : Tube) (kind : MoveKind) (step : Option Slot) (b : Bank) : Bank :=
  (b.report (some t) .motionDone (some kind.code) (step.map fun i => (i.val : Int))
    ((b.boat t).position.map fun p : Nat => (p : Int))).judgeSeal pub t

theorem finishing_eq (kind : MoveKind) (step : Option Slot) :
    (b.reportMotionDone t kind step).judgeSeal pub t = finishing pub t kind step b := by
  rw [finishing, Bank.reportMotionDone, Gates.positionDetail_eq, slotDetail]

section rest

variable {blocked : Bool}

theorem comeToRest_finishes {o : MoveOrder} (stopping : (b.boat t).stopping = none) (order : (b.boat t).order = some o)
    (there : (b.boat t).position = some o.target) : b.comeToRest pub t blocked =
      finishing pub t o.kind o.step
        (rested pub t none false ((b.boat t).motionDone || (o.kind = .step && o.current)) b) := by
  have finished : (b.boat t).finishedBy (b.boat t).position = some o := by simp [Boat.finishedBy, stopping, order, there]
  simp only [Bank.comeToRest, finished, stopping, finishing_eq, Option.isSome_none, Bool.false_eq_true, if_false]
  refine congrArg (finishing pub t o.kind o.step) (congrArg (Bank.judgeWindow pub t) (modBoat_congr ?_))
  simp [standing, MoveOrder.ofCurrentStep]

theorem comeToRest_short (stopping : (b.boat t).stopping = none)
    (short : ∀ o, (b.boat t).order = some o → (b.boat t).position ≠ some o.target) : b.comeToRest pub t blocked =
      (rested pub t (b.boat t).order blocked (b.boat t).motionDone b).judgeSeal pub t := by
  have finished : (b.boat t).finishedBy (b.boat t).position = none := by
    cases order : (b.boat t).order with
    | none => simp [Boat.finishedBy, stopping, order]
    | some o => simp [Boat.finishedBy, stopping, order, short o order]
  simp only [Bank.comeToRest, finished, stopping, Option.isSome_none, Bool.false_eq_true, if_false]
  refine congrArg (fun c => (c.judgeWindow pub t).judgeSeal pub t) (modBoat_congr ?_)
  simp [standing]

/-- A rest at the target that a stopping record keeps finishes the order left behind, and the next one starts (R149). -/
theorem comeToRest_finishesBehind {q : StoppingRecord} (stopping : (b.boat t).stopping = some q)
    (there : (b.boat t).position = some q.target) : b.comeToRest pub t blocked =
      (finishing pub t q.kind q.step (rested pub t (b.boat t).order false (b.boat t).motionDone b)).startOrder pub t := by
  have finished : (b.boat t).finishedBy (b.boat t).position = some ⟨q.kind, q.target, 0, q.step, false⟩ := by
    simp [Boat.finishedBy, stopping, there]
  simp only [Bank.comeToRest, finished, stopping, finishing_eq, Option.isSome_some, if_true]
  refine congrArg (fun c => (finishing pub t q.kind q.step c).startOrder pub t)
    (congrArg (Bank.judgeWindow pub t) (modBoat_congr ?_))
  simp [standing, MoveOrder.ofCurrentStep]

theorem comeToRest_shortBehind {q : StoppingRecord} (stopping : (b.boat t).stopping = some q)
    (short : (b.boat t).position ≠ some q.target) : b.comeToRest pub t blocked =
      ((rested pub t (b.boat t).order false (b.boat t).motionDone b).judgeSeal pub t).startOrder pub t := by
  have finished : (b.boat t).finishedBy (b.boat t).position = none := by simp [Boat.finishedBy, stopping, short]
  simp only [Bank.comeToRest, finished, stopping, Option.isSome_some, if_true]
  refine congrArg (fun c => ((c.judgeWindow pub t).judgeSeal pub t).startOrder pub t) (modBoat_congr ?_)
  simp [standing]

end rest

/-! ## A step of the drive (R143, R147, R151, R153) -/

theorem exec_paddleStep {s : State} (stepped : s.bank.paddleStep publish t = b) :
    exec (.paddleStep t) s = .next (s.after b) := congrArg (fun b => Host.Outcome.next (s.after b)) stepped

theorem not_locating {x : Boat} (h : x.paddle ≠ .moving ∨ x.locate = none) : x.locating = false := by
  rcases h with h | h <;> simp [Boat.locating, h]

theorem paddleStep_rests (moving : (b.boat t).paddle ≠ .moving) (stopping : (b.boat t).paddle ≠ .stopping) :
    b.paddleStep pub t = b := by
  simp [Bank.paddleStep, not_locating (.inl moving), (inMotion_eq_false_iff _).mpr ⟨moving, stopping⟩]

theorem paddleStep_locates (moving : (b.boat t).paddle = .moving) (locate : (b.boat t).locate.isSome) :
    b.paddleStep pub t = b.stepLocate pub t :=
  if_pos (by simp [Boat.locating, moving, locate])

theorem paddleStep_moves {r : Rail} {v : Travel} {p : Nat}
    (moves : (b.boat t).paddle = .moving ∨ (b.boat t).paddle = .stopping) (locate : (b.boat t).locate = none)
    (rail : (b.boat t).rail = some r) (travel : (b.boat t).travel = some v) (position : (b.boat t).position = some p) :
    b.paddleStep pub t = b.stepMove pub t r v p := by
  simp only [Bank.paddleStep, not_locating (.inr locate), (inMotion_iff _).mpr moves, rail, travel, position]
  rfl

/-- The bank with one more step of the locate counted (R147). -/
def counted (t : Tube) (b : Bank) : Bank := b.modBoat t fun x => { x with locateTravel := x.locateTravel + 1 }

theorem boat_counted : ((counted t b).boat t).locateTravel = (b.boat t).locateTravel + 1 := by simp [counted]

theorem stepLocate_counts (few : (b.boat t).locateTravel + 1 < 540) : b.stepLocate pub t = counted t b :=
  if_neg (by rw [← counted, boat_counted]; exact Nat.not_le.mpr few)

theorem stepLocate_fails (many : 540 ≤ (b.boat t).locateTravel + 1) :
    b.stepLocate pub t = (counted t b).enterFault pub t .locateMiss none none :=
  if_pos (by rw [← counted, boat_counted]; exact many)

theorem crossing_eq (x : Boat) (r : Rail) (v : Travel) (p q : Nat) : x.crossing r v p q =
    { x with speed :=
        if (r.doorZone ≤ p ∧ p ≤ r.inPos) ↔ (r.doorZone ≤ q ∧ q ≤ r.inPos) then x.speed
        else if r.doorZone ≤ q ∧ q ≤ r.inPos then min v.freeSpeed r.doorSpeed else v.freeSpeed } := by
  unfold Boat.crossing zoneSpeed
  simp only [← inZone_iff, ← Bool.eq_iff_iff]
  split <;> rfl

theorem startMark_iff (v : Travel) (r : Rail) (k : Nat) :
    v.startMark r k = true ↔ k * 500 ≤ r.length ∧ k * 500 ≤ v.start + 20 ∧ v.start ≤ k * 500 + 20 := by
  rw [Travel.startMark, Bool.and_eq_true, hasMark_iff, inWindow_iff]

theorem misses_iff (v : Travel) (r : Rail) (p k : Nat) : v.misses r p k = true ↔
    k * 500 ≤ r.length ∧ min v.start v.target ≤ k * 500 ∧ k * 500 ≤ max v.start v.target ∧ k ∉ v.marksRead
      ∧ ¬ (k * 500 ≤ v.start + 20 ∧ v.start ≤ k * 500 + 20)
      ∧ if v.inward then p = k * 500 + 21 else p + 21 = k * 500 := by
  have unstarted : (!v.startMark r k) = true ↔ ¬ (k * 500 ≤ r.length ∧ k * 500 ≤ v.start + 20 ∧ v.start ≤ k * 500 + 20) := by
    rw [← startMark_iff, Bool.not_eq_true', Bool.not_eq_true]
  have left : (if v.inward then decide (p = markAt k + Config.markWindow + 1)
      else decide (p + Config.markWindow + 1 = markAt k)) = true
        ↔ if v.inward then p = k * 500 + 21 else p + 21 = k * 500 := by
    cases v.inward <;> exact decide_eq_true_iff
  simp only [Travel.misses, Bool.and_eq_true, approaches_iff, unread_iff, unstarted, left, and_assoc]
  exact and_congr_right fun on => by simp only [on, true_and]

/-- A position stands just beyond one mark's window at most, so that the search finds the mark that is missed. -/
theorem misses_unique {v : Travel} {r : Rail} {p j k : Nat} (missed : v.misses r p k = true)
    (also : v.misses r p j = true) : j = k := by
  obtain ⟨-, -, -, -, -, beyond⟩ := (misses_iff v r p k).mp missed
  obtain ⟨-, -, -, -, -, beyond'⟩ := (misses_iff v r p j).mp also
  cases inward : v.inward <;> simp only [inward, if_true, Bool.false_eq_true, if_false] at beyond beyond' <;> omega

theorem find_misses_none {v : Travel} {r : Rail} {p : Nat} (absent : ∀ k, k ≤ 50 → ¬ v.misses r p k = true) :
    allMarks.find? (v.misses r p) = none :=
  List.find?_eq_none.mpr fun k hk => absent k (Nat.lt_succ_iff.mp (List.mem_range.mp hk))

theorem find_misses_some {v : Travel} {r : Rail} {p k : Nat} (bound : k ≤ 50) (missed : v.misses r p k = true) :
    allMarks.find? (v.misses r p) = some k := by
  refine List.find?_range_eq_some.mpr ⟨missed, List.mem_range.mpr (Nat.lt_succ_iff.mpr bound), fun j before => ?_⟩
  rw [Bool.not_eq_true', ← Bool.not_eq_true]
  exact fun also => Nat.ne_of_lt before (misses_unique missed also)

/-- The bank after a step to `q`, its crossing and its window, before misses and the target are judged (R143, R151). -/
def movedOn (pub : Publisher) (t : Tube) (r : Rail) (v : Travel) (p q : Nat) (b : Bank) : Bank :=
  (b.modBoat t fun x => { x with
    position := some q
    stopping := x.stopping.map fun y => { y with point := v.stoppingPoint r q }
    speed := if (r.doorZone ≤ p ∧ p ≤ r.inPos) ↔ (r.doorZone ≤ q ∧ q ≤ r.inPos) then x.speed
      else if r.doorZone ≤ q ∧ q ≤ r.inPos then min v.freeSpeed r.doorSpeed else v.freeSpeed }).judgeWindow pub t

section stepMove

variable {r : Rail} {v : Travel} {p q : Nat} (next : v.stepFrom p = q)

include next

theorem movedOn_eq :
    (b.modBoat t fun x => (x.stepTo r v (v.stepFrom p)).crossing r v p (v.stepFrom p)).judgeWindow pub t
      = movedOn pub t r v p q b := by
  simp only [next, crossing_eq]
  rfl

theorem stepMove_misses {k : Nat} (bound : k ≤ 50) (missed : v.misses r q k = true) : b.stepMove pub t r v p =
    (movedOn pub t r v p q b).enterFault pub t .miss (some k) none := by
  rw [← next] at missed
  simp only [Bank.stepMove, movedOn_eq next, find_misses_some bound missed]

theorem stepMove_passes (absent : ∀ k, k ≤ 50 → ¬ v.misses r q k = true) : b.stepMove pub t r v p =
    if q = v.target then (movedOn pub t r v p q b).comeToRest pub t false else movedOn pub t r v p q b := by
  rw [← next] at absent
  simp only [Bank.stepMove, movedOn_eq next, find_misses_none absent]
  rw [next]

end stepMove

/-- The bank with its paddle stopped in FAULT, the window and the seal judged, before the report (R154). -/
def stoodInFault (pub : Publisher) (t : Tube) (b : Bank) : Bank :=
  ((b.modBoat t fun x => { x with
    paddle := .fault, travel := none, stopping := none, locate := none, speed := 0, blocked := false }).judgeWindow
      pub t).judgeSeal pub t

/-- The bank with a paddle gone into FAULT, `details` being the packed marks of its report (R154, R192). -/
def faulted (pub : Publisher) (t : Tube) (cause details : Int) (b : Bank) : Bank :=
  ((stoodInFault pub t b).report (some t) .motionFault (some cause)
    (((stoodInFault pub t b).boat t).position.map fun p : Nat => (p : Int)) (some details)).judgeMotion pub t

theorem enterFault_eq (cause : MotionCause) (expected read : Option Nat) : b.enterFault pub t cause expected read =
    faulted pub t cause.code (markChar expected + 256 * markChar read) b := by
  simp only [Bank.enterFault, Gates.positionDetail_eq, faulted, stoodInFault]

theorem stepLocate_faults (many : 540 ≤ (b.boat t).locateTravel + 1) :
    b.stepLocate pub t = faulted pub t 2 (255 + 256 * 255) (counted t b) :=
  (stepLocate_fails many).trans (enterFault_eq ..)

theorem stepMove_faults {r : Rail} {v : Travel} {p q k : Nat} (next : v.stepFrom p = q) (bound : k ≤ 50)
    (missed : v.misses r q k = true) :
    b.stepMove pub t r v p = faulted pub t 1 (k + 256 * 255) (movedOn pub t r v p q b) :=
  (stepMove_misses next bound missed).trans (enterFault_eq ..)

/-- Settles O46: each clause is one outcome of a rest, of a locate's step, or of a move's step. -/
theorem paddleStep : Obligations.PaddleStep := by
  refine ⟨?_, ?_⟩
  · intro pub b t blocked p position x rest done
    refine ⟨fun stopping => ⟨fun o order there => ?_, fun short => ?_⟩, fun q stopping => ⟨fun there => ?_, fun short => ?_⟩⟩
    · exact comeToRest_finishes stopping order (position.trans (congrArg some there.symm))
    · exact comeToRest_short stopping fun o order there => short o order (Option.some.inj (there.symm.trans position))
    · exact comeToRest_finishesBehind stopping (position.trans (congrArg some there.symm))
    · exact comeToRest_shortBehind stopping fun there => short (Option.some.inj (there.symm.trans position))
  · intro s t x faulted
    refine ⟨fun moving stopping => exec_paddleStep (paddleStep_rests moving stopping), fun moving locate => ?_, ?_⟩
    · intro counted
      have locates := paddleStep_locates (pub := publish) moving locate
      exact ⟨fun few => exec_paddleStep (locates.trans (stepLocate_counts few)),
        fun many => exec_paddleStep (locates.trans (stepLocate_faults many))⟩
    · intro r v p moves locate rail travel position q inside stepped misses
      have missed (k : Nat) : v.misses r q k = true ↔ misses k := misses_iff v r q k
      have step := paddleStep_moves (pub := publish) moves locate rail travel position
      have passes (absent : ∀ k, k ≤ 50 → ¬ misses k) := step.trans (stepMove_passes (q := q) rfl fun k bound h =>
        absent k bound ((missed k).mp h))
      refine ⟨fun absent away => ?_, fun absent there => ?_, fun k bound miss => ?_⟩
      · exact exec_paddleStep ((passes absent).trans (if_neg away))
      · exact exec_paddleStep ((passes absent).trans (if_pos there))
      · exact exec_paddleStep (step.trans (stepMove_faults (q := q) rfl bound ((missed k).mpr miss)))

/-! ## A mark read (R147, R151, R153, R156) -/

theorem exec_markRead {s : State} {k : Nat} (read : s.bank.markRead publish t k = b) :
    exec (.markRead t k) s = .next (s.after b) := congrArg (fun b => Host.Outcome.next (s.after b)) read

section markRead

variable {r : Rail} {k : Nat} (rail : (b.boat t).rail = some r)

include rail

theorem markRead_rests (moving : (b.boat t).paddle ≠ .moving) (stopping : (b.boat t).paddle ≠ .stopping) :
    b.markRead pub t k = b := by
  simp [Bank.markRead, rail, not_locating (.inl moving), (inMotion_eq_false_iff _).mpr ⟨moving, stopping⟩]

theorem markRead_locates {asked : Nat} (moving : (b.boat t).paddle = .moving) (locate : (b.boat t).locate = some asked) :
    b.markRead pub t k = if markAt k ≤ r.inPos then b.endLocate pub t k else b.goOnLocating pub t r asked := by
  have locating : (b.boat t).locating = true := by simp [Boat.locating, moving, locate]
  simp only [Bank.markRead, rail, locating, if_true, locate, Option.getD_some]

theorem markRead_moves {v : Travel} {p : Nat} (moves : (b.boat t).paddle = .moving ∨ (b.boat t).paddle = .stopping)
    (locate : (b.boat t).locate = none) (travel : (b.boat t).travel = some v) (position : (b.boat t).position = some p) :
    b.markRead pub t k = if v.verifies r p k then b.verifiedRead pub t r v p k
      else b.enterFault pub t .mismatch (v.nextMark r p) (some k) := by
  simp only [Bank.markRead, rail, not_locating (.inr locate), (inMotion_iff _).mpr moves, travel, position]
  rfl

end markRead

/-- The bank after a locate has come to mark `k`, with its report and the seal, before MOTION and the order (R147). -/
def located (pub : Publisher) (t : Tube) (k : Nat) (b : Bank) : Bank :=
  (((b.modBoat t fun x => { x with
    paddle := .stopped, position := some (k * 500), locate := none, speed := 0, band := (b.speedBand t).val
    blocked := false }).judgeWindow pub t).report (some t) .boatLocated (some k) (some (k * 500 : Nat))).judgeSeal pub t

theorem endLocate_eq (k : Nat) : b.endLocate pub t k =
    (((located pub t k b).modBoat t fun x => { x with unlocWaiting := false }).judgeMotion pub t).startOrder pub t := rfl

theorem goOnLocating_runs {r : Rail} {asked speed : Nat} (evaluated : b.locateSpeed t r asked = speed) (runs : speed ≠ 0) :
    b.goOnLocating pub t r asked = (b.modBoat t fun x => { x with
      locateTravel := 0, speed := speed, band := (b.speedBand t).val, paddle := .moving, blocked := false }).judgeWindow
        pub t :=
  congrArg (Bank.judgeWindow pub t) (modBoat_congr (by simp [evaluated, runs]))

theorem goOnLocating_blocked {r : Rail} {asked : Nat} (evaluated : b.locateSpeed t r asked = 0) :
    b.goOnLocating pub t r asked = (b.modBoat t fun x => { x with
      locateTravel := 0, speed := 0, band := (b.speedBand t).val, paddle := .unlocated, blocked := true }).judgeWindow
        pub t :=
  congrArg (Bank.judgeWindow pub t) (modBoat_congr (by simp [evaluated]))

theorem verifies_iff (v : Travel) (r : Rail) (p k : Nat) : v.verifies r p k = true ↔
    k * 500 ≤ r.length ∧ (k * 500 ≤ p + 20 ∧ p ≤ k * 500 + 20)
      ∧ ((min v.start v.target ≤ k * 500 ∧ k * 500 ≤ max v.start v.target ∧ k ∉ v.marksRead)
        ∨ (k * 500 ≤ v.start + 20 ∧ v.start ≤ k * 500 + 20)) := by
  simp only [Travel.verifies, Travel.approachRead, Bool.or_eq_true, Bool.and_eq_true, approaches_iff, unread_iff,
    startMark_iff, inWindow_iff]
  constructor
  · rintro (⟨⟨⟨on, low, high⟩, unread⟩, near⟩ | ⟨⟨on, start⟩, near⟩)
    · exact ⟨on, near, .inl ⟨low, high, unread⟩⟩
    · exact ⟨on, near, .inr start⟩
  · rintro ⟨on, near, ⟨low, high, unread⟩ | start⟩
    · exact .inl ⟨⟨⟨on, low, high⟩, unread⟩, near⟩
    · exact .inr ⟨⟨on, start⟩, near⟩

theorem resync_eq (v : Travel) (r : Rail) (k : Nat) : v.resync r k =
    if v.inward then (if v.target ≤ min (k * 500) r.inPos then v.target else min (k * 500) r.inPos)
    else (if min (k * 500) r.inPos ≤ v.target then v.target else min (k * 500) r.inPos) := by
  have arrived : v.arrived (min (k * 500) r.inPos) = true ↔
      if v.inward then v.target ≤ min (k * 500) r.inPos else min (k * 500) r.inPos ≤ v.target := by
    unfold Travel.arrived
    cases v.inward <;> exact decide_eq_true_iff
  have resync : v.resync r k = if v.arrived (min (k * 500) r.inPos) then v.target else min (k * 500) r.inPos := rfl
  simp only [resync, arrived]
  cases v.inward <;> rfl

/-- The bank after the resync and the evaluation of a verified read, before a rest or the window is judged (R151, R153). -/
def resynced (t : Tube) (v : Travel) (k q speed : Nat) (b : Bank) : Bank :=
  b.modBoat t fun x => { x with
    position := some q, speed := speed, band := (b.speedBand t).val
    travel := some { v with marksRead := k :: v.marksRead, freeSpeed := b.freeSpeed t v.asked } }

theorem verifiedRead_eq {r : Rail} {v : Travel} {p k q speed : Nat} (position : v.resync r k = q)
    (evaluated : b.commandedSpeed t r q v.asked = speed) : b.verifiedRead pub t r v p k =
      if ((b.boat t).paddle = .stopping ∧ v.nextMark r p = some k) ∨ q = v.target ∨ speed = 0 then
        (resynced t v k q speed b).comeToRest pub t (decide (speed = 0))
      else (resynced t v k q speed b).judgeWindow pub t := by
  subst position evaluated
  simp only [Bank.verifiedRead, Bool.and_eq_true, decide_eq_true_eq]
  rfl

/-- Settles O47: a read at rest, a read of a locate, and a read of a move, verified or not. -/
theorem markRead : Obligations.MarkRead := by
  intro s t k r rail x band
  refine ⟨fun moving stopping => exec_markRead (markRead_rests rail moving stopping), ?_, ?_⟩
  · intro asked moving locate
    have locates := markRead_locates (pub := publish) (k := k) rail moving locate
    refine ⟨fun near => exec_markRead (locates.trans ((if_pos near).trans (endLocate_eq k))), ?_⟩
    intro far speed
    have goesOn := locates.trans (if_neg (Nat.not_le.mpr far))
    exact ⟨fun runs => exec_markRead (goesOn.trans (goOnLocating_runs rfl (Nat.ne_of_gt runs))),
      fun stands => exec_markRead (goesOn.trans (goOnLocating_blocked stands))⟩
  · intro v p moves locate travel position near verified c q free speed evaluated rests
    have moved := markRead_moves (pub := publish) (k := k) rail moves locate travel position
    have judged : v.verifies r p k = true ↔ verified := verifies_iff v r p k
    have read : s.bank.verifiedRead publish t r v p k =
        if rests then evaluated.comeToRest publish t (decide (speed = 0)) else evaluated.judgeWindow publish t :=
      verifiedRead_eq (resync_eq v r k) (commandedSpeed_eq ..)
    refine ⟨fun good goes => ?_, fun good stops => ?_, fun bad => ?_⟩
    · exact exec_markRead (moved.trans ((if_pos (judged.mpr good)).trans (read.trans (if_neg goes))))
    · exact exec_markRead (moved.trans ((if_pos (judged.mpr good)).trans (read.trans (if_pos stops))))
    · exact exec_markRead (moved.trans ((if_neg (mt judged.mp bad)).trans (enterFault_eq ..)))

end Sys2Proof.Proofs.BoatMotion
end

section
/-! SUPPORT. Proofs of the statements about the Interlock Unit (chapter 9): READ INTERLOCKS, an input's pin and the
change of its group when the pin is taken, and SET ACTION TABLE. -/

namespace Sys2Proof.Proofs.InterlockGroups

open Sys2Proof Sys2Proof.Machine

variable {b : Bank} {g : Group} {pub : Publisher}

/-! ## Updates of one group -/

/-- Updates of one group that agree on it. -/
theorem modGroup_congr {f f' : InterlockGroup → InterlockGroup} (h : f (b.group g) = f' (b.group g)) :
    b.modGroup g f = b.modGroup g f' := by
  unfold Bank.modGroup
  rw [h]

theorem group_modGroup_self (f : InterlockGroup → InterlockGroup) : (b.modGroup g f).group g = f (b.group g) :=
  Vector.getElem_set_self g.isLt

/-- Two updates of one group are one. -/
theorem modGroup_modGroup (f f' : InterlockGroup → InterlockGroup) :
    (b.modGroup g f).modGroup g f' = b.modGroup g fun x => f' (f x) := by
  simp only [Bank.modGroup, Bank.group, Fin.getElem_fin, Vector.getElem_set_self, Vector.set_set]

/-- An update that changes nothing. -/
theorem modGroup_self {f : InterlockGroup → InterlockGroup} (h : f (b.group g) = b.group g) : b.modGroup g f = b := by
  rw [Bank.modGroup, h]
  simp only [Bank.group, Fin.getElem_fin, Vector.set_getElem_self]

/-! ## READ INTERLOCKS (R168, R170) -/

/-- The group that gives a tube's summary, by the four groups' levels in the order of the scan (R168), as it is sent. -/
theorem summaryBytes_summary (b : Bank) (t : Tube) : summaryBytes (b.summary t) =
    let named (number : Nat) (g : Group) : List Byte :=
      leBytes 1 number ++ [(b.group g).byte] ++ leBytes 1 (b.group g).level
    if 0 < (b.group 0).level then named 0 0
    else if 0 < (b.group 1).level then named 1 1
    else if 0 < (b.group ⟨2 + 2 * t.val, by omega⟩).level then named 2 ⟨2 + 2 * t.val, by omega⟩
    else if 0 < (b.group ⟨3 + 2 * t.val, by omega⟩).level then named 3 ⟨3 + 2 * t.val, by omega⟩
    else [0xFF, 0x00, 0x00] := by
  simp only [Bank.summary, tubeGroups, List.find?_cons, List.find?_nil]
  by_cases zero : 0 < (b.group 0).level
  · simp only [zero, decide_true, if_true]; rfl
  by_cases one : 0 < (b.group 1).level
  · simp only [zero, one, decide_true, decide_false, if_true, if_false]; rfl
  by_cases two : 0 < (b.group ⟨2 + 2 * t.val, by omega⟩).level
  · simp only [zero, one, two, decide_true, decide_false, if_true, if_false]; rfl
  by_cases three : 0 < (b.group ⟨3 + 2 * t.val, by omega⟩).level
  · simp only [zero, one, two, three, decide_true, decide_false, if_true, if_false]; rfl
  · simp only [zero, one, two, three, decide_false, if_false]; rfl

/-- READ INTERLOCKS has no payload, so that with room for its reply it always reaches its owner (R170, R175). -/
theorem exec_readInterlocks {s : State} {tag : Byte} {reply : List Byte} (room : s.hasRoom)
    (decision : s.bank.hunting.readInterlocks [] = (b, reply)) :
    exec (.readInterlocks tag []) s = .next (s.decided .readInterlocks tag b reply) :=
  Gates.onBank_takeBankRequest room rfl decision

/-- Settles O12: the owner answers with what a completed frame has left alone, each tube's summary spelled by the scan. -/
theorem readInterlocks : Obligations.ReadInterlocks := by
  intro s tag room
  have decision : s.bank.hunting.readInterlocks [] = (s.bank.hunting, ([0x00] : List Byte)
      ++ (leBytes 4 s.bank.clock.toNat
        ++ s.bank.interlock.groups.toList.flatMap (fun g => [g.byte] ++ leBytes 1 g.level ++ [g.raw])
        ++ allTubes.flatMap fun t => summaryBytes (s.bank.summary t))) := rfl
  simp only [summaryBytes_summary, ← List.append_assoc] at decision
  exact exec_readInterlocks room decision

/-! ## An input's pin (R162) -/

theorem exec_interlockInputChange_same {s : State} {i : Input} {closed : Bool}
    (same : (s.bank.group g).raw.getLsbD i = closed) : exec (.interlockInputChange g i closed) s = .next s := by
  have stands : (s.bank.modGroup g fun x => x.pin i closed) = s.bank := modGroup_self (if_pos same)
  exact congrArg (fun b => Host.Outcome.next { s with bank := b }) stands

theorem exec_interlockInputChange_moved {s : State} {i : Input} {closed : Bool}
    (moved : (s.bank.group g).raw.getLsbD i ≠ closed) : exec (.interlockInputChange g i closed) s =
      .next { s with bank := s.bank.modGroup g fun x =>
        { x with raw := setInput x.raw i closed, debounce := x.debounce.set i 0 } } := by
  have kept : (s.bank.modGroup g fun x => x.pin i closed) = s.bank.modGroup g fun x =>
      { x with raw := setInput x.raw i closed, debounce := x.debounce.set i 0 } := modGroup_congr (if_neg moved)
  exact congrArg (fun b => Host.Outcome.next { s with bank := b }) kept

/-! ## A change of a group's byte (R166) -/

/-- The bank with a group's level formed and that reported for every tube that sees it, before a Hold Unit is told. -/
def levelReported (g : Group) (b : Bank) : Bank :=
  (groupTubes g).foldl Bank.reportInterlock (b.modGroup g fun x => { x with level := b.tableLevel g })

theorem formLevel_same (same : b.tableLevel g = (b.group g).level) : b.formLevel pub g = levelReported g b := if_pos same

/-- A new level of 1 to 7 is a raise of the group's source at each Hold Unit (R166, item 4). -/
theorem formLevel_raises (moved : b.tableLevel g ≠ (b.group g).level) (asks : 0 < b.tableLevel g) :
    b.formLevel pub g =
      (groupTubes g).foldl (fun b' t => b'.raise pub t (groupSource g) (b.tableLevel g)) (levelReported g b) := by
  have told (b' : Bank) (t : Tube) :
      b'.tellLevel pub (groupSource g) (b.tableLevel g) t = b'.raise pub t (groupSource g) (b.tableLevel g) :=
    if_neg (Nat.ne_of_gt asks)
  simp only [← told]
  exact if_neg moved

/-- A new level of 0 is a clear of the group's source at each Hold Unit (R166, item 4). -/
theorem formLevel_clears (moved : b.tableLevel g ≠ (b.group g).level) (quiet : b.tableLevel g = 0) :
    b.formLevel pub g = (groupTubes g).foldl (fun b' t => b'.clear t (groupSource g)) (levelReported g b) := by
  have told (b' : Bank) (t : Tube) :
      b'.tellLevel pub (groupSource g) (b.tableLevel g) t = b'.clear t (groupSource g) := if_pos quiet
  simp only [← told]
  exact if_neg moved

/-- The bank with an input taken into its group's byte, before the level is formed (R166, item 1). -/
def inputTaken (g : Group) (i : Input) (b : Bank) : Bank := b.modGroup g fun x => x.take i

section taken

variable {i : Input}

theorem level_inputTaken : ((inputTaken g i b).group g).level = (b.group g).level := by
  rw [inputTaken, group_modGroup_self]
  rfl

/-- The level is looked up at the byte that the taken input leaves (R164). -/
theorem tableLevel_inputTaken : (inputTaken g i b).tableLevel g =
    (b.interlock.tables[g])[(setInput (b.group g).byte i ((b.group g).raw.getLsbD i)).toNat] := by
  simp only [Bank.tableLevel, inputTaken, group_modGroup_self, Bank.tables_modGroup, InterlockGroup.take]

/-- Byte and level are set together, since nothing reads the group between them. -/
theorem levelReported_inputTaken {byte : BitVec 8} {level : Nat}
    (taken : setInput (b.group g).byte i ((b.group g).raw.getLsbD i) = byte)
    (formed : (inputTaken g i b).tableLevel g = level) :
    levelReported g (inputTaken g i b) = (groupTubes g).foldl Bank.reportInterlock
      (b.modGroup g fun x => { x with byte := byte, level := level, debounce := x.debounce.set i 256 }) := by
  unfold levelReported
  rw [formed, inputTaken, modGroup_modGroup]
  subst taken
  rfl

theorem exec_interlockInputTaken_same {s : State}
    (same : (s.bank.group g).raw.getLsbD i = (s.bank.group g).byte.getLsbD i) :
    exec (.interlockInputTaken g i) s = .next (s.after s.bank) :=
  congrArg (fun b => Host.Outcome.next (s.after b)) (if_pos same : s.bank.takeInput publish g i = s.bank)

theorem exec_interlockInputTaken {s : State}
    (differs : (s.bank.group g).raw.getLsbD i ≠ (s.bank.group g).byte.getLsbD i)
    (formed : (inputTaken g i s.bank).formLevel publish g = b) :
    exec (.interlockInputTaken g i) s = .next (s.after b) := by
  have taken : s.bank.takeInput publish g i = b := (if_neg differs).trans formed
  exact congrArg (fun b => Host.Outcome.next (s.after b)) taken

end taken

/-- Settles O49: the pin kept, and a taken input by the level that its group's new byte gives. -/
theorem interlockInputs : Obligations.InterlockInputs := by
  intro s g i closed x bit put
  refine ⟨exec_interlockInputChange_same, exec_interlockInputChange_moved, exec_interlockInputTaken_same, ?_⟩
  intro differs byte level tubes source reported
  have formed : (inputTaken g i s.bank).tableLevel g = level := tableLevel_inputTaken
  have reports : levelReported g (inputTaken g i s.bank) = reported := levelReported_inputTaken rfl formed
  rw [← reports, ← formed, ← show ((inputTaken g i s.bank).group g).level = x.level from level_inputTaken]
  exact ⟨fun same => exec_interlockInputTaken differs (formLevel_same same),
    fun moved asks => exec_interlockInputTaken differs (formLevel_raises moved asks),
    fun moved quiet => exec_interlockInputTaken differs (formLevel_clears moved quiet)⟩

/-! ## SET ACTION TABLE (R165) -/

/-- An entry within the written run is the level written to it, and one outside it stays (R165). -/
theorem getElem_writeLevels (levels : List Byte) (first : Nat) (v : Vector Nat 256) {j : Nat} (hj : j < 256) :
    (writeLevels levels first v)[j] =
      if first ≤ j ∧ j < first + levels.length then (levels.getD (j - first) 0).toNat else v[j] := by
  induction levels generalizing first v with
  | nil => exact (if_neg (by simp)).symm
  | cons x levels ih =>
    rw [writeLevels, ih, Vector.getElem_setIfInBounds, List.length_cons]
    rcases Nat.lt_trichotomy j first with below | here | above
    · rw [if_neg (by omega), if_neg (by omega), if_neg (by omega)]
    · subst here
      rw [if_neg (by omega), if_pos rfl, if_pos (by omega), Nat.sub_self, List.getD_cons_zero]
    · obtain ⟨k, rfl⟩ := Nat.exists_eq_add_of_lt above
      have next : first + k + 1 - first = k + 1 := by omega
      have rest : first + k + 1 - (first + 1) = k := by omega
      rw [next, rest, List.getD_cons_succ, if_neg (c := first = _) (by omega)]
      have within : first + 1 ≤ first + k + 1 ∧ first + k + 1 < first + 1 + levels.length ↔
          first ≤ first + k + 1 ∧ first + k + 1 < first + (levels.length + 1) := by omega
      simp only [within]

/-- The bank with a run of levels written to a group's table, before the group's level is formed again (R165). -/
def tableWritten (g : Group) (first : Nat) (levels : List Byte) (b : Bank) : Bank := { b with
  interlock := { b.interlock with tables := b.interlock.tables.set g (writeLevels levels first b.interlock.tables[g]) } }

theorem setActionTable_noTable {p : List Byte} (outside : 10 ≤ u8 p 0) :
    b.setActionTable pub p = b.refuse .badField := by
  simp only [Bank.setActionTable, asFin_none outside]

theorem setActionTable_badField {p : List Byte} (table : g.val = u8 p 0)
    (bad : 256 < u8 p 1 + (p.drop 3).length ∨ ∃ x ∈ p.drop 3, 7 < x.toNat) :
    b.setActionTable pub p = b.refuse .badField := by
  simp only [Bank.setActionTable, asFin_val g table]
  exact if_pos (by simpa only [List.any_eq_true, decide_eq_true_eq] using bad)

theorem tableLevel_tableWritten {first : Nat} {levels : List Byte} : (tableWritten g first levels b).tableLevel g =
    (writeLevels levels first b.interlock.tables[g])[(b.group g).byte.toNat] :=
  congrArg (·[(b.group g).byte.toNat]) (Vector.getElem_set_self g.isLt)

/-- Within its ranges the run is written, and the group's level is formed again where the run gives it another. -/
theorem setActionTable_writes {p : List Byte} (table : g.val = u8 p 0) (fits : u8 p 1 + (p.drop 3).length ≤ 256)
    (levels : ∀ x ∈ p.drop 3, x.toNat ≤ 7) : b.setActionTable pub p =
      let w := tableWritten g (u8 p 1) (p.drop 3) b
      (if (u8 p 1 ≤ (b.group g).byte.toNat ∧ (b.group g).byte.toNat < u8 p 1 + (p.drop 3).length)
          ∧ w.tableLevel g ≠ (b.group g).level then w.formLevel pub g else w).answer := by
  have good : ¬ (256 < u8 p 1 + (p.drop 3).length ∨ ((p.drop 3).any fun x => decide (7 < x.toNat)) = true) := by
    simpa only [List.any_eq_true, decide_eq_true_eq, not_or, not_exists, not_and, Nat.not_lt] using ⟨fits, levels⟩
  simp only [Bank.setActionTable, asFin_val g table, if_neg good, Bool.and_eq_true, decide_eq_true_eq]
  rfl

theorem exec_setActionTable {s : State} {tag : Byte} {p reply : List Byte} (room : s.hasRoom) (head : 3 ≤ p.length)
    (length : p.length = 3 + u8 p 2) (decision : s.bank.hunting.setActionTable publish p = (b, reply)) :
    exec (.setActionTable tag p) s = .next (s.decided .setActionTable tag b reply) :=
  Gates.onBank_takeBankRequest room (Bool.and_eq_true_iff.mpr ⟨decide_eq_true head, decide_eq_true length⟩) decision

/-- Settles O50: the refusals, and the run written with the group's level formed again or left. -/
theorem setActionTable : Obligations.SetActionTable := by
  intro s tag p room head length first levels
  refine ⟨fun bad => ?_, ?_⟩
  · rcases Nat.lt_or_ge (u8 p 0) 10 with inside | outside
    · exact exec_setActionTable room head length
        (setActionTable_badField (g := ⟨u8 p 0, inside⟩) rfl (bad.resolve_left (Nat.not_le.mpr inside)))
    · exact exec_setActionTable room head length (setActionTable_noTable outside)
  · intro g named fits inRange table written byte covered
    have entries : writeLevels levels first s.bank.interlock.tables[g] = table :=
      Vector.ext fun j hj => by rw [getElem_writeLevels levels first _ hj, Vector.getElem_ofFn]; rfl
    have writes : tableWritten g first levels s.bank.hunting = written := by
      unfold written
      rw [← entries]
      rfl
    have level : written.tableLevel g = table[(s.bank.group g).byte.toNat] := by
      rw [← writes, tableLevel_tableWritten]
      exact congrArg (·[(s.bank.group g).byte.toNat]) entries
    have decision := setActionTable_writes (pub := publish) (b := s.bank.hunting) named fits inRange
    rw [show tableWritten g (u8 p 1) (p.drop 3) s.bank.hunting = written from writes] at decision
    rw [← level]
    refine ⟨fun quiet => ?_, fun within moved => ?_⟩
    · have kept : ¬ (covered ∧ written.tableLevel g ≠ (s.bank.group g).level) := fun ⟨within, moved⟩ =>
        quiet.elim (· within) moved
      exact exec_setActionTable room head length (decision.trans (congrArg Bank.answer (if_neg kept)))
    · exact exec_setActionTable room head length (decision.trans (congrArg Bank.answer (if_pos ⟨within, moved⟩)))

end Sys2Proof.Proofs.InterlockGroups
end

section
/-! SUPPORT. Proof that every step keeps the link's queues within their places (chapter 10): what the transmit side does to
the link, which decisions and events leave the link alone, and the end of an event, which offers what was reported in it. -/

namespace Sys2Proof.Proofs.LinkSafety

open Sys2Proof Sys2Proof.Machine

variable {b : Bank} {l : Link}

/-! ## The two queues within their places (R175, R177, R180) -/

/-- The queues within their places, the report level and the counts within their ranges: what `Bank.linkSafe` says of the
link while a reply or a report that has just joined its queue has not been started yet. -/
structure InRange (l : Link) : Prop where
  replies : l.replies.length ≤ Config.replyPlaces
  reports : l.reports.length ≤ Config.reportPlaces
  levelLow : 1 ≤ l.reportLevel
  levelHigh : l.reportLevel ≤ 7
  discards : l.discards ≤ Config.countMax
  crcErrors : l.crcErrors ≤ Config.countMax
  lost : l.lost ≤ Config.countMax

/-- What `Bank.linkSafe` says of the link. -/
structure Settled (l : Link) : Prop extends InRange l where
  idle : l.sending = none → l.replies = [] ∧ l.reports = []

theorem linkSafe_iff : b.linkSafe ↔ Settled b.link ∧ b.outbox = [] ∧ b.supply.due = false := by
  constructor
  · rintro ⟨replies, reports, idle, ⟨low, high⟩, discards, crcErrors, lost, outbox, due⟩
    exact ⟨⟨⟨replies, reports, low, high, discards, crcErrors, lost⟩, idle⟩, outbox, due⟩
  · rintro ⟨⟨⟨replies, reports, low, high, discards, crcErrors, lost⟩, idle⟩, outbox, due⟩
    exact ⟨replies, reports, idle, ⟨low, high⟩, discards, crcErrors, lost, outbox, due⟩

theorem satAdd_le (x y top : Nat) : satAdd x y top ≤ top := Nat.min_le_right _ _

/-- Taking out a member that is there makes one place free. -/
theorem length_removeFirst {α : Type} {p : α → Bool} {l : List α} (found : l.any p = true) :
    (removeFirst p l).length + 1 = l.length := by
  induction l with
  | nil => simp at found
  | cons x l ih =>
    unfold removeFirst
    split
    · rfl
    · rename_i other
      have later : l.any p = true := by simpa [other] using found
      simpa using ih later

/-- A queue with a place free stays within its places when a member joins it. -/
theorem length_append_le {α : Type} {queue : List α} {places : Nat} (x : α) (room : queue.length < places) :
    (queue ++ [x]).length ≤ places := by
  rw [List.length_append, List.length_singleton]
  exact Nat.succ_le_of_lt room

/-- A report queue within its 64 places stays within them: at 64 the report displaces one or is lost (R180). -/
theorem InRange.queueReport (h : InRange l) (r : Report) : InRange (l.queueReport r) := by
  unfold Link.queueReport
  split
  · rename_i room
    exact { h with reports := length_append_le r room }
  · split
    · rename_i displaces
      have freed := length_removeFirst displaces.2
      have places := h.reports
      exact { h with
        reports := by simp only [List.length_append, List.length_singleton]; omega
        lost := satAdd_le _ _ _ }
    · exact { h with lost := satAdd_le _ _ _ }

theorem InRange.announceLost (h : InRange l) (clock : BitVec 32) : InRange (l.announceLost clock) := by
  unfold Link.announceLost
  split
  · exact { h.queueReport (lostReport clock l.lost) with lost := Nat.zero_le _ }
  · exact h

theorem sending_queueReport (l : Link) (r : Report) : (l.queueReport r).sending = l.sending := by
  unfold Link.queueReport
  split
  · rfl
  · split <;> rfl

theorem sending_announceLost (l : Link) (clock : BitVec 32) : (l.announceLost clock).sending = l.sending := by
  unfold Link.announceLost
  split
  · exact sending_queueReport _ _
  · rfl

/-- A transmitter that stays idle has found both queues empty (R177). -/
theorem InRange.startNext (h : InRange l) (clock : BitVec 32) : Settled (l.startNext clock) := by
  unfold Link.startNext
  split
  · rename_i frame busy
    exact { h with idle := fun idle => by simp [busy] at idle }
  · rename_i r rest idle waiting
    have places : (r :: rest).length ≤ Config.replyPlaces := waiting ▸ h.replies
    exact { h with
      replies := Nat.le_trans (Nat.le_succ _) places
      idle := nofun }
  · rename_i r rest idle none waiting
    have places : (r :: rest).length ≤ Config.reportPlaces := waiting ▸ h.reports
    have left : InRange { l with
        reports := rest, sending := some (frameChars 0x80 l.sequence r.payload), sequence := l.sequence + 1 } :=
      { h with reports := Nat.le_trans (Nat.le_succ _) places }
    exact { left.announceLost clock with idle := fun idle => by simp [sending_announceLost] at idle }
  · rename_i idle noReply noReport
    exact { h with idle := fun _ => ⟨noReply, noReport⟩ }

theorem Settled.offer (h : Settled l) (clock : BitVec 32) (r : Report) : Settled (Link.offer clock l r) := by
  unfold Link.offer
  split
  · exact h
  · exact (h.toInRange.queueReport r).startNext clock

theorem Settled.offerAll (h : Settled l) (clock : BitVec 32) (reports : List Report) :
    Settled (reports.foldl (Link.offer clock) l) := by
  induction reports generalizing l with
  | nil => exact h
  | cons r reports ih => exact ih (h.offer clock r)

/-! ## What leaves the link alone -/

/-- The tubes that a kept property may leave open: none. -/
abbrev nowhere : Tube → Prop := fun _ => False

theorem unset_refl (b : Bank) : Unset b nowhere nowhere b := ⟨rfl, fun k => by cases k <;> simp [Setting.same]⟩

/-- An operation that keeps every setting, whichever bank they are compared with, leaves the link alone. -/
theorem link_of_unset {b' : Bank} (keeps : ∀ b₀, Unset b₀ nowhere nowhere b → Unset b₀ nowhere nowhere b') :
    b'.link = b.link := (keeps b (unset_refl b)).1

theorem keeps_publish (b₀ : Bank) : Keeps (Unset b₀) publish := (kept_unset b₀).publish

theorem link_eachTube {f : Tube → Bank → Bank} (one : ∀ t b, (f t b).link = b.link) (b : Bank) :
    (b.eachTube f).link = b.link := by
  unfold Bank.eachTube
  induction allTubes generalizing b with
  | nil => rfl
  | cons t l ih => exact (ih (f t b)).trans (one t b)

theorem link_settle (b : Bank) : (b.settle publish).link = b.link :=
  link_of_unset fun b₀ h => (kept_unset b₀).settle (keeps_publish b₀) h

theorem due_settle (b : Bank) (pub : Publisher) : (b.settle pub).supply.due = false := by
  unfold Bank.settle
  split
  · rfl
  · rename_i due
    simpa using due

/-- The end of an event offers its reports and makes the re-examination it called for. -/
theorem linkSafe_close (h : Settled b.link) : b.close.linkSafe := by
  refine linkSafe_iff.mpr ⟨?_, rfl, due_settle b publish⟩
  refine Settled.offerAll ?_ _ _
  rwa [link_settle]

/-! ## Requests -/

/-- A bank that has room for the reply of the request in hand. -/
def Ready (b : Bank) : Prop := InRange b.link ∧ b.link.replies.length < Config.replyPlaces

theorem ready_of_link {b' : Bank} (h : Ready b) (same : b'.link = b.link) : Ready b' := by
  unfold Ready
  rwa [same]

/-- The reply of a decision takes the room there is for it, and its reports follow (R176). -/
theorem linkSafe_conclude {d : Decision} (h : Ready d.1) (kind tag : Byte) : (Bank.conclude d kind tag).linkSafe := by
  refine linkSafe_close (InRange.startNext ?_ _)
  exact { h.1 with replies := length_append_le _ h.2 }

theorem linkSafe_receive (h : b.linkSafe) (r : Receiver) : (b.receive r).linkSafe := h

theorem linkSafe_discard (h : b.linkSafe) : b.discard.linkSafe := by
  obtain ⟨link, outbox, due⟩ := linkSafe_iff.mp h
  exact linkSafe_iff.mpr ⟨{ link with discards := satAdd_le _ _ _ }, outbox, due⟩

theorem ready_of_linkSafe (h : b.linkSafe) (room : b.repliesFull = false) : Ready b :=
  ⟨(linkSafe_iff.mp h).1.toInRange, by simpa [Bank.repliesFull] using room⟩

theorem linkSafe_takeTubeRequest {r : Req} {tag : Byte} {p : List Byte} {owner : Tube → List Byte → Bank → Decision}
    (decides : ∀ t b, (owner t p b).1.link = b.link) (h : b.linkSafe) : (b.takeTubeRequest r tag p owner).linkSafe := by
  have hunting : b.hunting.linkSafe := linkSafe_receive h .hunt
  unfold Bank.takeTubeRequest
  dsimp only
  split
  · exact linkSafe_discard hunting
  · rename_i room
    have ready := ready_of_linkSafe hunting (Bool.eq_false_iff.mpr room)
    refine linkSafe_conclude (ready_of_link ready ?_) _ _
    split
    · rfl
    · split
      · rfl
      · split
        · rfl
        · exact decides _ _

theorem linkSafe_takeBankRequest {r : Req} {tag : Byte} {p : List Byte} {owner : List Byte → Bank → Decision}
    (decides : ∀ b, Ready b → Ready (owner p b).1) (h : b.linkSafe) : (b.takeBankRequest r tag p owner).linkSafe := by
  have hunting : b.hunting.linkSafe := linkSafe_receive h .hunt
  unfold Bank.takeBankRequest
  dsimp only
  split
  · exact linkSafe_discard hunting
  · rename_i room
    have ready := ready_of_linkSafe hunting (Bool.eq_false_iff.mpr room)
    refine linkSafe_conclude ?_ _ _
    split
    · exact ready
    · exact decides _ ready

theorem linkSafe_takeUnknown (kind tag : Byte) (h : b.linkSafe) : (b.takeUnknown kind tag).linkSafe := by
  have hunting : b.hunting.linkSafe := linkSafe_receive h .hunt
  unfold Bank.takeUnknown
  dsimp only
  split
  · exact hunting
  · split
    · exact linkSafe_discard hunting
    · rename_i room
      exact linkSafe_conclude (ready_of_linkSafe hunting (Bool.eq_false_iff.mpr room)) _ _

/-! ## The decisions of the owners: two write the link, every other leaves it alone -/

theorem link_loadSteps (t : Tube) (p : List Byte) (b : Bank) : (b.loadSteps t p).1.link = b.link := by
  unfold Bank.loadSteps
  dsimp only
  split <;> rfl

theorem link_clearSteps (t : Tube) (p : List Byte) (b : Bank) : (b.clearSteps t p).1.link = b.link := by
  unfold Bank.clearSteps
  split <;> rfl

theorem link_completeConfiguration (t : Tube) (b : Bank) : (b.completeConfiguration publish t).link = b.link :=
  link_of_unset fun b₀ h => (kept_unset b₀).completeConfiguration (keeps_publish b₀) t h

theorem link_configureZones (t : Tube) (p : List Byte) (b : Bank) : (b.configureZones publish t p).1.link = b.link := by
  unfold Bank.configureZones
  dsimp only
  split
  · rfl
  · split
    · rfl
    · refine link_of_unset (b := b.modTube t fun x => { x with zonesConfig := some (readZones p) }) fun b₀ h => ?_
      exact (kept_unset b₀).applyZones (keeps_publish b₀) t _
        ((kept_unset b₀).completeConfiguration (keeps_publish b₀) t h)

theorem link_applyChannels (t : Tube) (before : Supply) (b : Bank) : (b.applyChannels t before).link = b.link := by
  unfold Bank.applyChannels
  dsimp only
  split <;> rfl

theorem link_configureChannels (t : Tube) (p : List Byte) (b : Bank) :
    (b.configureChannels publish t p).1.link = b.link := by
  unfold Bank.configureChannels
  dsimp only
  split
  · rfl
  · split
    · rfl
    · split
      · rfl
      · exact (link_applyChannels _ _ _).trans (link_completeConfiguration _ _)

theorem link_applyRail (t : Tube) (r : Rail) (b : Bank) : (b.applyRail publish t r).link = b.link :=
  link_of_unset (b := b.modBoat t fun x => x.takeRail r) fun b₀ h =>
    (kept_unset b₀).judgeSeal (keeps_publish b₀) t ((kept_unset b₀).judgeMotion (keeps_publish b₀) t h)

theorem link_configureRail (t : Tube) (p : List Byte) (b : Bank) : (b.configureRail publish t p).1.link = b.link := by
  unfold Bank.configureRail
  dsimp only
  split
  · rfl
  · split
    · rfl
    · split
      · rfl
      · exact (link_applyRail _ _ _).trans (link_completeConfiguration _ _)

/-- The map written entry by entry (R104). -/
theorem link_writeEntries (entries : List (Nat × Nat)) (code : Nat) (b : Bank) :
    (writeEntries entries code b).1.link = b.link := by
  induction entries generalizing code b with
  | nil => rfl
  | cons e entries ih =>
    unfold writeEntries
    split
    · dsimp only
      split
      · rfl
      · exact ih _ _
    · rfl

theorem link_followMap (written : List (GasCode × MapEntry)) (t : Tube) (b : Bank) :
    (b.followMap publish written t).link = b.link := by
  refine link_of_unset fun b₀ h => ?_
  have formed : Unset b₀ nowhere nowhere ((b.markUncovered t written).formEffective publish t) :=
    (kept_unset b₀).formEffective' (keeps_publish b₀) t ((kept_unset b₀).gas t _ rfl (fun c => by simp) h)
  exact kept_ite (fun _ => h) fun _ =>
    kept_ite (fun _ => (kept_unset b₀).requestGas (keeps_publish b₀) t _ _ formed) fun _ => formed

theorem link_setGasMap (p : List Byte) (b : Bank) : (b.setGasMap publish p).1.link = b.link := by
  unfold Bank.setGasMap
  dsimp only
  split
  · rfl
  · exact (link_eachTube (link_followMap _) _).trans (link_writeEntries _ _ b)


theorem link_setSupplyLimit (p : List Byte) (b : Bank) : (b.setSupplyLimit p).1.link = b.link := by
  unfold Bank.setSupplyLimit
  dsimp only
  split
  · rfl
  · split
    · rfl
    · split
      · rfl
      · simp only [Bank.answer]
        split <;> rfl

theorem link_setGateLimits (p : List Byte) (b : Bank) : (b.setGateLimits p).1.link = b.link := by
  unfold Bank.setGateLimits
  split <;> rfl

theorem link_setSpeedTable (t : Tube) (p : List Byte) (b : Bank) : (b.setSpeedTable t p).1.link = b.link := by
  unfold Bank.setSpeedTable
  split <;> rfl

theorem link_judgeLimited (t : Tube) (b : Bank) : (b.judgeLimited t).link = b.link := by
  unfold Bank.judgeLimited
  dsimp only
  split <;> rfl

theorem link_cutGrants (limit : Nat) (b : Bank) : (b.cutGrants limit).link = b.link :=
  link_eachTube (fun _ _ => by rw [Bank.link_modLoops, Bank.link_modShare]) b

theorem link_setPowerLimit (p : List Byte) (b : Bank) : (b.setPowerLimit p).1.link = b.link := by
  unfold Bank.setPowerLimit
  dsimp only
  split
  · simp only [Bank.answer, link_eachTube link_judgeLimited, link_cutGrants]
  · rfl

/-- The Hold Units of a group's tubes are told its level (R166). -/
theorem link_formLevel (g : Group) (b : Bank) : (b.formLevel publish g).link = b.link := by
  refine link_of_unset (b := b.modGroup g fun x => { x with level := b.tableLevel g }) fun b₀ h => ?_
  have reported := foldKept (groupTubes g) Bank.reportInterlock
    (fun b t (h : Unset b₀ nowhere nowhere b) => (kept_unset b₀).report _ _ _ _ _ _ h) h
  refine kept_ite (fun _ => reported) fun _ => foldKept _ _ (fun b t h => ?_) reported
  exact kept_ite (fun _ => (kept_unset b₀).clear t _ h) fun _ =>
    (kept_unset b₀).raise (keeps_publish b₀) t _ _ nofun h

theorem link_setActionTable (p : List Byte) (b : Bank) : (b.setActionTable publish p).1.link = b.link := by
  unfold Bank.setActionTable
  dsimp only
  split
  · rfl
  · split
    · rfl
    · simp only [Bank.answer]
      split
      · exact link_formLevel _ _
      · rfl

/-- SET REPORT LEVEL writes a level of 1 to 7 (R179). -/
theorem ready_setReportLevel (p : List Byte) (b : Bank) (h : Ready b) : Ready (b.setReportLevel p).1 := by
  unfold Bank.setReportLevel
  split
  · exact h
  · rename_i within
    have written : 1 ≤ u8 p 0 ∧ u8 p 0 ≤ 7 := by omega
    exact ⟨{ h.1 with levelLow := written.1, levelHigh := written.2 }, h.2⟩

theorem inRange_reset (sending : Option (List Byte)) : InRange { Link.reset with sending := sending } where
  replies := Nat.zero_le _
  reports := Nat.zero_le _
  levelLow := Nat.le_refl 1
  levelHigh := Nat.le_add_left 1 6
  discards := Nat.zero_le _
  crcErrors := Nat.zero_le _
  lost := Nat.zero_le _

/-- RESTART BANK empties both queues (R185). -/
theorem ready_restartBank (p : List Byte) (b : Bank) (h : Ready b) : Ready (b.restartBank p).1 := by
  unfold Bank.restartBank
  split
  · exact h
  · exact ⟨inRange_reset b.link.sending, Nat.succ_pos _⟩

/-! ## What the events leave alone -/

theorem link_zoneLoopExpiry (t : Tube) (b : Bank) : (b.zoneLoopExpiry t).link = b.link := by
  unfold Bank.zoneLoopExpiry
  split
  · rfl
  · exact link_judgeLimited _ _

theorem link_reportConversion (c : TcChannel) (old new : ChannelRecord) (b : Bank) :
    (b.reportConversion c old new).link = b.link := by
  unfold Bank.reportConversion
  dsimp only
  split
  · split <;> rfl
  · split <;> rfl

theorem link_handControl (t : Tube) (good reached : Bool) (b : Bank) :
    (b.handControl publish t good reached).link = b.link :=
  link_of_unset fun b₀ h => (kept_unset b₀).handControl (keeps_publish b₀) t good reached h

theorem link_handOvertemp (t : Tube) (z : Zone) (reached : Bool) (b : Bank) :
    (b.handOvertemp publish t z reached).link = b.link :=
  link_of_unset fun b₀ h => (kept_unset b₀).handOvertemp (keeps_publish b₀) t z reached h

theorem link_tcConversion (input : Option Int) (b : Bank) : (b.tcConversion publish input).link = b.link := by
  unfold Bank.tcConversion
  dsimp only
  split
  · rw [link_reportConversion, Bank.link_modScanner]
  · rw [link_handControl, link_reportConversion, Bank.link_modScanner]
  · rw [link_handOvertemp, link_reportConversion, Bank.link_modScanner]

theorem link_takeInput (g : Group) (i : Input) (b : Bank) : (b.takeInput publish g i).link = b.link := by
  unfold Bank.takeInput
  split
  · rfl
  · exact link_formLevel g (b.modGroup g fun x => x.take i)

theorem link_takeSensor (t : Tube) (b : Bank) : (b.takeSensor publish t).link = b.link := by
  unfold Bank.takeSensor
  split
  · rfl
  · exact link_of_unset
      (b := b.modBoat t fun x => { x with sensor := x.sensorRaw, sensorTime := Config.debounceFull }) fun b₀ h =>
      (kept_unset b₀).judgeSeal (keeps_publish b₀) t h

theorem link_paddleStep (t : Tube) (b : Bank) : (b.paddleStep publish t).link = b.link :=
  link_of_unset fun b₀ h =>
    (moves_unset b₀).paddleStep (keeps_publish b₀) (fun R t p => (kept_placed R t p).publish) t nofun h

/-! ## Every command keeps the link safe -/

/-- A request of any kind, by what its owner's decision does to the link. -/
theorem linkSafe_takeRequest (r : Req) (tag : Byte) (p : List Byte) (h : b.linkSafe) : (b.takeRequest r tag p).linkSafe := by
  cases r with
  | loadSteps => exact linkSafe_takeTubeRequest (fun t b => link_loadSteps t p b) h
  | clearSteps => exact linkSafe_takeTubeRequest (fun t b => link_clearSteps t p b) h
  | readSteps => exact linkSafe_takeTubeRequest (fun t b => congrArg Bank.link (Bank.readSteps_fst t p)) h
  | startRun =>
    exact linkSafe_takeTubeRequest (fun t b => link_of_unset fun b₀ h =>
      (kept_unset b₀).startRun (keeps_publish b₀) t p h) h
  | abortRun =>
    exact linkSafe_takeTubeRequest (fun t b => link_of_unset fun b₀ h =>
      (kept_unset b₀).abortRun (keeps_publish b₀) t p h) h
  | resetTube =>
    exact linkSafe_takeTubeRequest (fun t b => link_of_unset fun b₀ h =>
      (kept_unset b₀).resetTube (keeps_publish b₀) t p h) h
  | hold =>
    exact linkSafe_takeTubeRequest (fun t b => link_of_unset fun b₀ h =>
      (kept_unset b₀).holdRequest (keeps_publish b₀) t p h) h
  | release =>
    exact linkSafe_takeTubeRequest (fun t b => link_of_unset fun b₀ h =>
      (kept_unset b₀).releaseRequest (keeps_publish b₀) t p h) h
  | setIdleTemperature =>
    exact linkSafe_takeTubeRequest (fun t b => link_of_unset fun b₀ h => (kept_unset b₀).setIdleTemperature t p h) h
  | configureZones => exact linkSafe_takeTubeRequest (fun t b => link_configureZones t p b) h
  | setPowerLimit => exact linkSafe_takeBankRequest (fun b ready => ready_of_link ready (link_setPowerLimit p b)) h
  | readReadings => exact linkSafe_takeBankRequest (fun b ready => ready) h
  | configureChannels => exact linkSafe_takeTubeRequest (fun t b => link_configureChannels t p b) h
  | setGasMap => exact linkSafe_takeBankRequest (fun b ready => ready_of_link ready (link_setGasMap p b)) h
  | setSupplyLimit => exact linkSafe_takeBankRequest (fun b ready => ready_of_link ready (link_setSupplyLimit p b)) h
  | setGateLimits => exact linkSafe_takeBankRequest (fun b ready => ready_of_link ready (link_setGateLimits p b)) h
  | configureRail => exact linkSafe_takeTubeRequest (fun t b => link_configureRail t p b) h
  | locateBoat =>
    exact linkSafe_takeTubeRequest (fun t b => link_of_unset fun b₀ h =>
      (moves_unset b₀).locateBoat (keeps_publish b₀) t p h) h
  | moveBoat =>
    exact linkSafe_takeTubeRequest (fun t b => link_of_unset fun b₀ h =>
      (moves_unset b₀).moveBoat (keeps_publish b₀) t p nofun h) h
  | clearMotionFault =>
    exact linkSafe_takeTubeRequest (fun t b => link_of_unset fun b₀ h =>
      (moves_unset b₀).clearMotionFault (keeps_publish b₀) t p h) h
  | setSpeedTable => exact linkSafe_takeTubeRequest (fun t b => link_setSpeedTable t p b) h
  | setActionTable => exact linkSafe_takeBankRequest (fun b ready => ready_of_link ready (link_setActionTable p b)) h
  | setReportLevel => exact linkSafe_takeBankRequest (fun b ready => ready_setReportLevel p b ready) h
  | readBank => exact linkSafe_takeBankRequest (fun b ready => ready) h
  | restartBank => exact linkSafe_takeBankRequest (fun b ready => ready_restartBank p b ready) h
  | readTube => exact linkSafe_takeTubeRequest (fun t b => congrArg Bank.link (Bank.readTube_fst t p)) h
  | readInterlocks => exact linkSafe_takeBankRequest (fun b ready => ready) h

theorem linkSafe_takeFrame (kind tag : Byte) (p : List Byte) (h : b.linkSafe) : (b.takeFrame kind tag p).linkSafe := by
  unfold Bank.takeFrame
  split
  · exact linkSafe_takeUnknown kind tag h
  · exact linkSafe_takeRequest _ tag p h

theorem linkSafe_crcMismatch (h : b.linkSafe) : b.crcMismatch.linkSafe := by
  obtain ⟨link, outbox, due⟩ := linkSafe_iff.mp h
  exact linkSafe_iff.mpr ⟨{ link with crcErrors := satAdd_le _ _ _ }, outbox, due⟩

theorem linkSafe_takeCharacter (c : Byte) (h : b.linkSafe) : (b.takeCharacter c).linkSafe := by
  unfold Bank.takeCharacter
  split
  · split
    · exact linkSafe_receive h _
    · exact h
  · split <;> exact linkSafe_receive h _
  · split <;> exact linkSafe_receive h _
  · exact linkSafe_receive h _
  · unfold Bank.judgeFrame
    split
    · split
      · exact linkSafe_takeFrame _ _ _ h
      · exact linkSafe_receive h _
    · exact linkSafe_crcMismatch h

theorem linkSafe_transmitComplete (h : b.linkSafe) : b.transmitComplete.linkSafe := by
  obtain ⟨link, outbox, due⟩ := linkSafe_iff.mp h
  unfold Bank.transmitComplete
  split
  · exact h
  · have ended : InRange { b.link with sending := none } := { link.toInRange with }
    exact linkSafe_iff.mpr ⟨ended.startNext _, outbox, due⟩

theorem linkSafe_powerUp (b : Bank) : b.powerUp.linkSafe :=
  linkSafe_iff.mpr ⟨{ inRange_reset none with idle := fun _ => ⟨rfl, rfl⟩ }, rfl, rfl⟩

/-- An event that leaves the link alone keeps it safe, with its reports offered at its end (R178). -/
theorem linkSafe_event {f : Bank → Bank} (same : ∀ b, (f b).link = b.link) (h : b.linkSafe) : (f b).close.linkSafe := by
  refine linkSafe_close ?_
  rw [same]
  exact (linkSafe_iff.mp h).1

/-- Every command answers a next state, whose link is safe if it was. -/
theorem exec_linkSafe (c : Instr) (s : State) (h : s.bank.linkSafe) :
    ∃ b, exec c s = .next { s with bank := b } ∧ b.linkSafe := by
  cases c with
  | powerUp => exact ⟨_, rfl, linkSafe_powerUp s.bank⟩
  | loadSteps tag p => exact ⟨_, rfl, linkSafe_takeRequest .loadSteps tag p h⟩
  | clearSteps tag p => exact ⟨_, rfl, linkSafe_takeRequest .clearSteps tag p h⟩
  | readSteps tag p => exact ⟨_, rfl, linkSafe_takeRequest .readSteps tag p h⟩
  | startRun tag p => exact ⟨_, rfl, linkSafe_takeRequest .startRun tag p h⟩
  | abortRun tag p => exact ⟨_, rfl, linkSafe_takeRequest .abortRun tag p h⟩
  | resetTube tag p => exact ⟨_, rfl, linkSafe_takeRequest .resetTube tag p h⟩
  | hold tag p => exact ⟨_, rfl, linkSafe_takeRequest .hold tag p h⟩
  | release tag p => exact ⟨_, rfl, linkSafe_takeRequest .release tag p h⟩
  | setIdleTemperature tag p => exact ⟨_, rfl, linkSafe_takeRequest .setIdleTemperature tag p h⟩
  | configureZones tag p => exact ⟨_, rfl, linkSafe_takeRequest .configureZones tag p h⟩
  | setPowerLimit tag p => exact ⟨_, rfl, linkSafe_takeRequest .setPowerLimit tag p h⟩
  | readReadings tag p => exact ⟨_, rfl, linkSafe_takeRequest .readReadings tag p h⟩
  | configureChannels tag p => exact ⟨_, rfl, linkSafe_takeRequest .configureChannels tag p h⟩
  | setGasMap tag p => exact ⟨_, rfl, linkSafe_takeRequest .setGasMap tag p h⟩
  | setSupplyLimit tag p => exact ⟨_, rfl, linkSafe_takeRequest .setSupplyLimit tag p h⟩
  | setGateLimits tag p => exact ⟨_, rfl, linkSafe_takeRequest .setGateLimits tag p h⟩
  | configureRail tag p => exact ⟨_, rfl, linkSafe_takeRequest .configureRail tag p h⟩
  | locateBoat tag p => exact ⟨_, rfl, linkSafe_takeRequest .locateBoat tag p h⟩
  | moveBoat tag p => exact ⟨_, rfl, linkSafe_takeRequest .moveBoat tag p h⟩
  | clearMotionFault tag p => exact ⟨_, rfl, linkSafe_takeRequest .clearMotionFault tag p h⟩
  | setSpeedTable tag p => exact ⟨_, rfl, linkSafe_takeRequest .setSpeedTable tag p h⟩
  | setActionTable tag p => exact ⟨_, rfl, linkSafe_takeRequest .setActionTable tag p h⟩
  | setReportLevel tag p => exact ⟨_, rfl, linkSafe_takeRequest .setReportLevel tag p h⟩
  | readBank tag p => exact ⟨_, rfl, linkSafe_takeRequest .readBank tag p h⟩
  | restartBank tag p => exact ⟨_, rfl, linkSafe_takeRequest .restartBank tag p h⟩
  | readTube tag p => exact ⟨_, rfl, linkSafe_takeRequest .readTube tag p h⟩
  | readInterlocks tag p => exact ⟨_, rfl, linkSafe_takeRequest .readInterlocks tag p h⟩
  | unknownKind kind tag p => exact ⟨_, rfl, linkSafe_takeUnknown kind tag h⟩
  | crcError => exact ⟨_, rfl, linkSafe_crcMismatch h⟩
  | invalidFrameLength n =>
    refine ⟨_, rfl, ?_⟩
    split
    · exact linkSafe_receive h _
    · exact h
  | receiveGap => exact ⟨_, rfl, linkSafe_receive h _⟩
  | framingError => exact ⟨_, rfl, linkSafe_receive h _⟩
  | transmitComplete => exact ⟨_, rfl, linkSafe_transmitComplete h⟩
  | runEngineExpiry t =>
    exact ⟨_, rfl, linkSafe_event (fun b => link_of_unset fun b₀ h =>
      (kept_unset b₀).runEngineExpiry (keeps_publish b₀) t h) h⟩
  | rampExpiry t =>
    exact ⟨_, rfl, linkSafe_event (fun b => link_of_unset fun b₀ h =>
      (kept_unset b₀).rampExpiry (keeps_publish b₀) t h) h⟩
  | zoneLoopExpiry t => exact ⟨_, rfl, linkSafe_event (link_zoneLoopExpiry t) h⟩
  | gasSample t returns =>
    exact ⟨_, rfl, linkSafe_event (fun b => link_of_unset fun b₀ h =>
      (kept_unset b₀).gasSample (keeps_publish b₀) t returns h) h⟩
  | tcConversion input => exact ⟨_, rfl, linkSafe_event (link_tcConversion input) h⟩
  | interlockInputChange g i closed => exact ⟨_, rfl, h⟩
  | interlockInputTaken g i => exact ⟨_, rfl, linkSafe_event (link_takeInput g i) h⟩
  | sealSensorChange t closed => exact ⟨_, rfl, h⟩
  | sealSensorTaken t => exact ⟨_, rfl, linkSafe_event (link_takeSensor t) h⟩
  | paddleStep t => exact ⟨_, rfl, linkSafe_event (link_paddleStep t) h⟩
  | markRead t mark =>
    exact ⟨_, rfl, linkSafe_event (fun b => link_of_unset fun b₀ h =>
      (moves_unset b₀).markRead (keeps_publish b₀) t mark nofun h) h⟩
  | characterTaken c => exact ⟨_, rfl, linkSafe_takeCharacter c h⟩
  | bankTick => exact ⟨_, rfl, h⟩

/-- Settles O58: a step takes the command in front, or idles. -/
theorem linkKept : Obligations.LinkKept := by
  intro s s' safe stepped
  unfold step at stepped
  split at stepped
  · cases stepped
    exact safe
  · rename_i c rest _
    obtain ⟨b, answers, kept⟩ := exec_linkSafe c { s with pending := rest } safe
    cases answers.symm.trans stepped
    exact kept

end Sys2Proof.Proofs.LinkSafety
end

section
/-! SUPPORT. Proofs of the statements about requests, the report queue and the transmitter (chapter 10): what is checked before
a request reaches its owner, the report queue's table, the end of a transmission, and READ BANK. -/

namespace Sys2Proof.Proofs.RequestsAndReports

open Sys2Proof Sys2Proof.Machine

variable {b : Bank} {l : Link}

/-! ## The checks before a request's owner (R175, R176) -/

/-- The command of a request kind is the taking of that request. -/
theorem exec_command (r : Req) (tag : Byte) (p : List Byte) (s : State) :
    exec (r.command tag p) s = .next { s with bank := s.bank.takeRequest r tag p } := by
  cases r <;> rfl

/-- A request is taken with the checks of a tube where its kind carries one, and without them where it carries none. -/
theorem takeRequest_shape (r : Req) :
    (r.carriesTube = true ∧ ∃ owner, ∀ b tag p, Bank.takeRequest r tag p b = b.takeTubeRequest r tag p owner)
      ∨ (r.carriesTube = false ∧ ∃ owner, ∀ b tag p, Bank.takeRequest r tag p b = b.takeBankRequest r tag p owner) := by
  cases r with
  | loadSteps => exact .inl ⟨rfl, Bank.loadSteps, fun _ _ _ => rfl⟩
  | clearSteps => exact .inl ⟨rfl, Bank.clearSteps, fun _ _ _ => rfl⟩
  | readSteps => exact .inl ⟨rfl, Bank.readSteps, fun _ _ _ => rfl⟩
  | startRun => exact .inl ⟨rfl, Bank.startRun publish, fun _ _ _ => rfl⟩
  | abortRun => exact .inl ⟨rfl, Bank.abortRun publish, fun _ _ _ => rfl⟩
  | resetTube => exact .inl ⟨rfl, Bank.resetTube publish, fun _ _ _ => rfl⟩
  | hold => exact .inl ⟨rfl, Bank.holdRequest publish, fun _ _ _ => rfl⟩
  | release => exact .inl ⟨rfl, Bank.releaseRequest publish, fun _ _ _ => rfl⟩
  | setIdleTemperature => exact .inl ⟨rfl, Bank.setIdleTemperature, fun _ _ _ => rfl⟩
  | configureZones => exact .inl ⟨rfl, Bank.configureZones publish, fun _ _ _ => rfl⟩
  | setPowerLimit => exact .inr ⟨rfl, Bank.setPowerLimit, fun _ _ _ => rfl⟩
  | readReadings => exact .inr ⟨rfl, Bank.readReadings, fun _ _ _ => rfl⟩
  | configureChannels => exact .inl ⟨rfl, Bank.configureChannels publish, fun _ _ _ => rfl⟩
  | setGasMap => exact .inr ⟨rfl, Bank.setGasMap publish, fun _ _ _ => rfl⟩
  | setSupplyLimit => exact .inr ⟨rfl, Bank.setSupplyLimit, fun _ _ _ => rfl⟩
  | setGateLimits => exact .inr ⟨rfl, Bank.setGateLimits, fun _ _ _ => rfl⟩
  | configureRail => exact .inl ⟨rfl, Bank.configureRail publish, fun _ _ _ => rfl⟩
  | locateBoat => exact .inl ⟨rfl, Bank.locateBoat publish, fun _ _ _ => rfl⟩
  | moveBoat => exact .inl ⟨rfl, Bank.moveBoat publish, fun _ _ _ => rfl⟩
  | clearMotionFault => exact .inl ⟨rfl, Bank.clearMotionFault publish, fun _ _ _ => rfl⟩
  | setSpeedTable => exact .inl ⟨rfl, Bank.setSpeedTable, fun _ _ _ => rfl⟩
  | setActionTable => exact .inr ⟨rfl, Bank.setActionTable publish, fun _ _ _ => rfl⟩
  | setReportLevel => exact .inr ⟨rfl, Bank.setReportLevel, fun _ _ _ => rfl⟩
  | readBank => exact .inr ⟨rfl, Bank.readBank, fun _ _ _ => rfl⟩
  | restartBank => exact .inr ⟨rfl, Bank.restartBank, fun _ _ _ => rfl⟩
  | readTube => exact .inl ⟨rfl, Bank.readTube, fun _ _ _ => rfl⟩
  | readInterlocks => exact .inr ⟨rfl, Bank.readInterlocks, fun _ _ _ => rfl⟩

theorem takeRequest_carriesTube {r : Req} (tube : r.carriesTube = true) :
    ∃ owner, ∀ b tag p, Bank.takeRequest r tag p b = b.takeTubeRequest r tag p owner :=
  (takeRequest_shape r).elim (·.2) fun without => absurd (tube.symm.trans without.1) nofun

/-- With 4 replies in the queue a request of any kind is not processed. -/
theorem takeRequest_full {r : Req} {tag : Byte} {p : List Byte} (full : b.repliesFull = true) :
    b.takeRequest r tag p = b.hunting.discard := by
  have found : b.hunting.repliesFull = true := full
  rcases takeRequest_shape r with ⟨_, owner, taken⟩ | ⟨_, owner, taken⟩
  · rw [taken, Bank.takeTubeRequest]
    exact if_pos found
  · rw [taken, Bank.takeBankRequest]
    exact if_pos found

/-- A payload of another length than its kind's is refused before its fields are read. -/
theorem takeRequest_badLength {s : State} {r : Req} {tag : Byte} {p : List Byte} (room : s.hasRoom)
    (length : r.lengthOk p = false) : s.bank.takeRequest r tag p =
      Bank.conclude (s.bank.hunting.refuse .badLength) (BitVec.ofNat 8 r.code) tag := by
  rcases takeRequest_shape r with ⟨_, owner, taken⟩ | ⟨_, owner, taken⟩
  · simp only [taken, Bank.takeTubeRequest, hunting_room room, length, Bool.false_eq_true, if_true, if_false]
  · simp only [taken, Bank.takeBankRequest, hunting_room room, length, Bool.false_eq_true, if_true, if_false]

/-- The first character names no tube outside 1 to 4. -/
theorem requestTube_none {p : List Byte} (outside : u8 p 0 = 0 ∨ 4 < u8 p 0) : requestTube p = none := by
  unfold requestTube
  split
  · omega
  · omega
  · omega
  · omega
  · rfl

theorem takeRequest_badTube {s : State} {r : Req} {tag : Byte} {p : List Byte} (room : s.hasRoom)
    (length : r.lengthOk p = true) (tube : r.carriesTube = true) (outside : u8 p 0 = 0 ∨ 4 < u8 p 0) :
    s.bank.takeRequest r tag p = Bank.conclude (s.bank.hunting.refuse .badTube) (BitVec.ofNat 8 r.code) tag := by
  obtain ⟨owner, taken⟩ := takeRequest_carriesTube tube
  simp only [taken, Bank.takeTubeRequest, hunting_room room, length, requestTube_none outside, Bool.true_eq_false,
    Bool.false_eq_true, if_false]

/-- The five kinds that an UNCONFIGURED tube admits. -/
theorem takenUnconfigured_iff (r : Req) : r.takenUnconfigured = true ↔
    r ∈ [Req.configureZones, .configureChannels, .configureRail, .readSteps, .readTube] := by
  cases r <;> decide

/-- A good frame of no request kind leaves no trace outside 0x01 to 0x7F (R175). -/
theorem takeUnknown_outside {kind tag : Byte} (outside : kind.toNat = 0 ∨ 0x80 ≤ kind.toNat) :
    b.takeUnknown kind tag = b.hunting := if_pos outside

theorem takeUnknown_full {kind tag : Byte} (nonzero : kind.toNat ≠ 0) (low : kind.toNat ≤ 0x7F)
    (full : b.repliesFull = true) : b.takeUnknown kind tag = b.hunting.discard := by
  have found : b.hunting.repliesFull = true := full
  simp only [Bank.takeUnknown, found, if_true]
  exact if_neg (by omega)

theorem takeUnknown_room {s : State} {kind tag : Byte} (nonzero : kind.toNat ≠ 0) (low : kind.toNat ≤ 0x7F)
    (room : s.hasRoom) :
    s.bank.takeUnknown kind tag = Bank.conclude (s.bank.hunting.refuse .unknownKind) kind tag := by
  simp only [Bank.takeUnknown, hunting_room room, Bool.false_eq_true, if_false]
  exact if_neg (by omega)

/-- Settles O4: the checks in the order of their making, each for a request of any kind. -/
theorem requestsChecked : Obligations.RequestsChecked := by
  refine ⟨fun s r tag p full => ?_, fun s r tag p room => ⟨fun length => ?_, fun length tube outside => ?_,
    fun length tube other t named unconfigured => ?_⟩, fun s kind tag p _ => ⟨fun outside => ?_,
    fun nonzero low full => ?_, fun nonzero low room => ?_⟩⟩
  · rw [exec_command, takeRequest_full (decide_eq_true full)]
    rfl
  · rw [exec_command, takeRequest_badLength room length]
    rfl
  · rw [exec_command, takeRequest_badTube room length tube outside]
    rfl
  · obtain ⟨owner, taken⟩ := takeRequest_carriesTube tube
    have refused : r.takenUnconfigured = false := Bool.eq_false_iff.mpr (mt (takenUnconfigured_iff r).mp other)
    rw [exec_command, taken, takeTubeRequest_unconfigured room length named unconfigured refused]
    rfl
  · exact congrArg (fun b => Host.Outcome.next { s with bank := b }) (takeUnknown_outside outside)
  · exact congrArg (fun b => Host.Outcome.next { s with bank := b }) (takeUnknown_full nonzero low (decide_eq_true full))
  · exact congrArg (fun b => Host.Outcome.next { s with bank := b }) (takeUnknown_room nonzero low room)

/-! ## The report queue (R180) -/

theorem queueReport_room (r : Report) (room : l.reports.length < 64) :
    l.queueReport r = { l with reports := l.reports ++ [r] } := if_pos room

/-- The first member that is looked for stands behind those that are not. -/
theorem removeFirst_append {α : Type} {p : α → Bool} {older newer : List α} {x : α} (skipped : ∀ y ∈ older, p y = false)
    (found : p x = true) : removeFirst p (older ++ x :: newer) = older ++ newer := by
  induction older with
  | nil => exact if_pos found
  | cons y older ih =>
    have head : p y = false := skipped y List.mem_cons_self
    have rest := ih fun z later => skipped z (List.mem_cons_of_mem y later)
    simp only [List.cons_append, removeFirst, head, rest, Bool.false_eq_true, if_false]

theorem lesser_eq_false {r : Report} (seven : r.level = 7) : r.lesser = false := by
  simp [Report.lesser, seven]

theorem queueReport_displaces {r oldest : Report} {older newer : List Report} (full : 64 ≤ l.reports.length)
    (seven : r.level = 7) (queue : l.reports = older ++ oldest :: newer) (kept : ∀ x ∈ older, x.level = 7)
    (lesser : oldest.level < 7) : l.queueReport r =
      { l with reports := older ++ newer ++ [r], lost := min (l.lost + 1) 65535 } := by
  have least : oldest.lesser = true := decide_eq_true lesser
  have there : l.reports.any Report.lesser = true := by simp [queue, least]
  have taken : removeFirst Report.lesser l.reports = older ++ newer := by
    rw [queue, removeFirst_append (fun x member => lesser_eq_false (kept x member)) least]
  unfold Link.queueReport
  rw [if_neg (c := l.reports.length < Config.reportPlaces) (Nat.not_lt.mpr full),
    if_pos ⟨Nat.le_of_eq seven.symm, there⟩, taken]
  rfl

theorem queueReport_lost {r : Report} (full : 64 ≤ l.reports.length)
    (noRoom : r.level < 7 ∨ ∀ x ∈ l.reports, x.level = 7) :
    l.queueReport r = { l with lost := min (l.lost + 1) 65535 } := by
  have stays : ¬ (7 ≤ r.level ∧ l.reports.any Report.lesser = true) := by
    rintro ⟨seven, there⟩
    obtain ⟨x, member, lesser⟩ := List.any_eq_true.mp there
    rcases noRoom with low | all
    · omega
    · simp [lesser_eq_false (all x member)] at lesser
  unfold Link.queueReport
  rw [if_neg (c := l.reports.length < Config.reportPlaces) (Nat.not_lt.mpr full), if_neg stays]
  rfl

/-- Settles O6, row by row of R180's table. -/
theorem reportQueueTable : Obligations.ReportQueueTable := fun _ r =>
  ⟨queueReport_room r, fun _ _ _ => queueReport_displaces, queueReport_lost⟩

/-! ## The end of a transmission (R177, R181) -/

theorem exec_transmitComplete_idle {s : State} (idle : s.bank.link.sending = none) :
    exec .transmitComplete s = .next s := by
  have stands : s.bank.transmitComplete = s.bank := if_pos (by rw [idle]; rfl)
  exact congrArg (fun b => Host.Outcome.next { s with bank := b }) stands

/-- Where a frame was under way, the transmitter is idle and starts the next one. -/
theorem exec_transmitComplete_sent {s : State} {frame : List Byte} {l : Link} (sent : s.bank.link.sending = some frame)
    (next : ({ s.bank.link with sending := none } : Link).startNext s.bank.clock = l) :
    exec .transmitComplete s = .next { s with bank := { s.bank with link := l } } := by
  have ended : s.bank.transmitComplete = { s.bank with link := l } := by
    rw [← next]
    exact if_neg (by simp [sent])
  exact congrArg (fun b => Host.Outcome.next { s with bank := b }) ended

theorem startNext_reply {clock : BitVec 32} {r : Reply} {rest : List Reply} (queue : l.replies = r :: rest) :
    ({ l with sending := none } : Link).startNext clock =
      { l with replies := rest, sending := some (frameChars r.kind r.tag r.payload) } := by
  simp only [Link.startNext, queue]

theorem startNext_report {clock : BitVec 32} {r : Report} {rest : List Report} (noReply : l.replies = [])
    (queue : l.reports = r :: rest) : ({ l with sending := none } : Link).startNext clock =
      { l with reports := rest, sending := some (frameChars 0x80 l.sequence r.payload)
               sequence := l.sequence + 1 }.announceLost clock := by
  simp only [Link.startNext, noReply, queue]

theorem startNext_empty {clock : BitVec 32} (noReply : l.replies = []) (noReport : l.reports = []) :
    ({ l with sending := none } : Link).startNext clock = { l with sending := none } := by
  simp only [Link.startNext, noReply, noReport]

theorem announceLost_quiet {clock : BitVec 32} (quiet : l.lost = 0 ∨ 62 < l.reports.length) :
    l.announceLost clock = l := by
  refine if_neg ?_
  rintro ⟨someLost, free⟩
  exact quiet.elim (Nat.ne_of_gt someLost) (Nat.not_lt.mpr free)

theorem announceLost_announces {clock : BitVec 32} (someLost : 0 < l.lost) (free : l.reports.length ≤ 62) :
    l.announceLost clock =
      { l with reports := l.reports ++ [⟨clock, none, .reportsLost, 7, some l.lost, none, none⟩], lost := 0 } := by
  unfold Link.announceLost
  rw [if_pos (show 0 < l.lost ∧ l.reports.length ≤ Config.lostAnnounceFill from ⟨someLost, free⟩),
    queueReport_room _ (by omega)]
  rfl

/-- Settles O7: what an idle transmitter starts, the announcement of losses included. -/
theorem transmitCompletes : Obligations.TransmitCompletes := by
  refine fun s => ⟨exec_transmitComplete_idle, fun frame sent => ⟨fun r rest queue => ?_,
    fun r rest noReply queue quiet => ?_, fun r rest noReply queue someLost free => ?_, fun noReply noReport => ?_⟩⟩
  · exact exec_transmitComplete_sent sent (startNext_reply queue)
  · exact exec_transmitComplete_sent sent ((startNext_report noReply queue).trans (announceLost_quiet quiet))
  · exact exec_transmitComplete_sent sent
      ((startNext_report noReply queue).trans (announceLost_announces someLost free))
  · exact exec_transmitComplete_sent sent (startNext_empty noReply noReport)

/-! ## READ BANK (R183) -/

/-- The owner answers OK with the items of R183 in R189's layout, in every state, and leaves the bank as it is. -/
theorem readBank_decision (p : List Byte) (b : Bank) :
    b.readBank p = (b, ([0x00] : List Byte) ++ leBytes 4 b.clock.toNat
        ++ allTubes.flatMap (fun t => leBytes 1 (16 * (b.run t).state.code + (b.hold t).level : Nat))
        ++ leBytes 2 b.powerLimit
        ++ allTubes.flatMap (fun t => leBytes 2 (b.share t).demand ++ leBytes 2 (b.share t).grant
            ++ leBytes 1 (if (b.share t).limited then 1 else 0))
        ++ allLines.flatMap (fun l => leBytes 3 (b.supply.limits[l] : Nat)
            ++ allTubes.flatMap (fun t => leBytes 3 (b.supply.allocated t l))
            ++ ([0, 1, 2, 3] : List Nat).flatMap fun k =>
              leBytes 1 (match (b.supply.queue l)[k]? with | none => 0 | some t => t.val + 1))
        ++ b.gasMap.toList.flatMap (fun e =>
            leBytes 1 ((match e.line with | none => 15 | some l => l.val) + 16 * e.cls.code : Nat))
        ++ leBytes 3 b.threshold ++ leBytes 2 b.ratio
        ++ leBytes 1 b.link.reportLevel ++ leBytes 1 b.link.replies.length
        ++ leBytes 1 b.link.reports.length
        ++ leBytes 2 b.link.discards ++ leBytes 2 b.link.crcErrors ++ leBytes 2 b.link.lost) := by
  have ok : leBytes 1 Status.ok.code = [0x00] := rfl
  simp only [Bank.readBank, Bank.answer, Bank.clockBytes, ok, List.append_assoc]
  rfl

/-- Settles O11: the request reaches its owner, whose items a completed frame has left alone. -/
theorem readBank : Obligations.ReadBank := fun s _ room =>
  Gates.onBank_takeBankRequest room rfl (readBank_decision [] s.bank.hunting)

end Sys2Proof.Proofs.RequestsAndReports
end

section
/-! SUPPORT. Proofs of the statements about the receiver (chapter 10): the CRC, what each character and each discarding event
does, and a whole frame taken character by character. -/

namespace Sys2Proof.Proofs.Reception

open Sys2Proof Sys2Proof.Machine Sys2Proof.Proofs.RequestsAndReports

variable {b : Bank} {s : State}

/-! ## The CRC (R174) -/

/-- A shift from below the register's top bit leaves the polynomial out. -/
theorem crcShift_small {c : BitVec 16} (small : c.toNat < 32768) : crcShift c = c <<< 1 := by
  have low : c.msb = false := by
    rw [BitVec.msb_eq_decide]
    exact decide_eq_false (by omega)
  simp [crcShift, low]

/-- A character that stands in the register alone meets the polynomial only after eight shifts. -/
theorem crcShift_shifted (x : Byte) {k : Nat} (hk : k < 8) :
    crcShift (x.setWidth 16 <<< k) = x.setWidth 16 <<< (k + 1) := by
  have small : x.toNat * 2 ^ k < 32768 :=
    calc x.toNat * 2 ^ k < 2 ^ 8 * 2 ^ k := Nat.mul_lt_mul_of_pos_right x.isLt (Nat.two_pow_pos k)
      _ ≤ 2 ^ 8 * 2 ^ 7 := Nat.mul_le_mul_left _ (Nat.pow_le_pow_right (by omega) (by omega))
  rw [crcShift_small, BitVec.shiftLeft_add]
  simp only [BitVec.toNat_shiftLeft, BitVec.toNat_setWidth, Nat.shiftLeft_eq]
  rw [Nat.mod_eq_of_lt (a := x.toNat) (by omega)]
  exact Nat.lt_of_le_of_lt (Nat.mod_le _ _) small

theorem crcShift8_low (x : Byte) : crcShift8 (x.setWidth 16) = x.setWidth 16 <<< 8 := by
  have first : crcShift (x.setWidth 16) = x.setWidth 16 <<< 1 := by
    simpa only [BitVec.shiftLeft_zero] using crcShift_shifted x (k := 0) (by omega)
  simp only [crcShift8, first, crcShift_shifted, Nat.reduceLT, Nat.reduceAdd]

/-- The register's upper half leaves where its high byte enters. -/
theorem xor_high (c : BitVec 16) :
    c ^^^ ((c.extractLsb' 8 8).setWidth 16 <<< 8) = (c.extractLsb' 0 8).setWidth 16 := by
  refine BitVec.eq_of_getLsbD_eq fun i hi => ?_
  by_cases low : i < 8
  · simp [low, hi]
  · have place : 8 + (i - 8) = i := by omega
    have within : i - 8 < 8 := by omega
    simp [low, hi, place, within]

/-- The register's own two characters, taken high byte first, bring it to 0. -/
theorem crcStep_chars (c : BitVec 16) : (crcChars c).foldl crcStep c = 0 := by
  have first : crcStep c (c.extractLsb' 8 8) = (c.extractLsb' 0 8).setWidth 16 <<< 8 := by
    rw [crcStep, xor_high, crcShift8_low]
  have second : crcStep ((c.extractLsb' 0 8).setWidth 16 <<< 8) (c.extractLsb' 0 8) = 0 := by
    rw [crcStep, BitVec.xor_self]
    decide
  rw [crcChars, List.foldl_cons, first, List.foldl_cons, second, List.foldl_nil]

theorem crc16_append_chars (l : List Byte) : crc16 (l ++ crcChars (crc16 l)) = 0 := by
  unfold crc16
  rw [List.foldl_append]
  exact crcStep_chars _

/-- The check value of the manual's nine characters, one character at a time (R174). -/
theorem crc16_nine : crc16 [0x31, 0x32, 0x33, 0x34, 0x35, 0x36, 0x37, 0x38, 0x39] = 0x29B1 := by
  have char1 : crcStep 0xFFFF 0x31 = 0xC782 := by decide
  have char2 : crcStep 0xC782 0x32 = 0x3DBA := by decide
  have char3 : crcStep 0x3DBA 0x33 = 0x5BCE := by decide
  have char4 : crcStep 0x5BCE 0x34 = 0x5349 := by decide
  have char5 : crcStep 0x5349 0x35 = 0x4560 := by decide
  have char6 : crcStep 0x4560 0x36 = 0x2EF4 := by decide
  have char7 : crcStep 0x2EF4 0x37 = 0x7718 := by decide
  have char8 : crcStep 0x7718 0x38 = 0xA12B := by decide
  have char9 : crcStep 0xA12B 0x39 = 0x29B1 := by decide
  simp only [crc16, List.foldl_cons, List.foldl_nil, char1, char2, char3, char4, char5, char6, char7, char8, char9]

/-- The value of a CRC's two characters is the CRC. -/
theorem crcValue_halves (c : BitVec 16) : crcValue (c.extractLsb' 8 8) (c.extractLsb' 0 8) = c := by
  refine BitVec.eq_of_getLsbD_eq fun i hi => ?_
  by_cases low : i < 8
  · simp [crcValue, low, hi]
  · have place : 8 + (i - 8) = i := by omega
    have within : i - 8 < 8 := by omega
    simp [crcValue, low, hi, place, within]

theorem extract_high_crcValue (x y : Byte) : (crcValue x y).extractLsb' 8 8 = x := by
  refine BitVec.eq_of_getLsbD_eq fun i hi => ?_
  have high : 8 + i < 16 := by omega
  simp [crcValue, hi, high]

theorem extract_low_crcValue (x y : Byte) : (crcValue x y).extractLsb' 0 8 = y := by
  refine BitVec.eq_of_getLsbD_eq fun i hi => ?_
  have wide : i < 16 := by omega
  simp [crcValue, hi, wide]

/-- One pair of characters stands for a CRC: the one its sender appends. -/
theorem eq_crcValue_iff (c : BitVec 16) (first second : Byte) :
    c = crcValue first second ↔ [first, second] = crcChars c := by
  constructor
  · rintro rfl
    rw [crcChars, extract_high_crcValue, extract_low_crcValue]
  · intro same
    obtain ⟨high, low⟩ : first = c.extractLsb' 8 8 ∧ second = c.extractLsb' 0 8 := by simpa [crcChars] using same
    rw [high, low, crcValue_halves]

/-! ## The states of the receiver (R172, R173) -/

theorem receive_receive (r r' : Receiver) : (b.receive r).receive r' = b.receive r' := rfl

theorem takeCharacter_hunt {c : Byte} (state : b.link.receiver = .hunt) :
    b.takeCharacter c = if c = 0x5A then b.receive .length else b := by
  simp only [Bank.takeCharacter, state]

theorem lengthInvalid_iff (n : Byte) : lengthInvalid n = true ↔ n.toNat < 2 ∨ 250 < n.toNat := by
  simp [lengthInvalid]

theorem takeCharacter_length {c : Byte} (state : b.link.receiver = .length) (low : 2 ≤ c.toNat) (high : c.toNat ≤ 250) :
    b.takeCharacter c = b.receive (.body c.toNat []) := by
  simp only [Bank.takeCharacter, state]
  exact if_neg (by rw [lengthInvalid_iff]; omega)

theorem takeCharacter_badLength {c : Byte} (state : b.link.receiver = .length) (bad : c.toNat < 2 ∨ 250 < c.toNat) :
    b.takeCharacter c = b.receive .hunt := by
  simp only [Bank.takeCharacter, state]
  exact if_pos ((lengthInvalid_iff c).mpr bad)

theorem takeCharacter_body {c : Byte} {n : Nat} {kept : List Byte} (state : b.link.receiver = .body n kept)
    (more : kept.length + 1 < n) : b.takeCharacter c = b.receive (.body n (kept ++ [c])) := by
  simp only [Bank.takeCharacter, state]
  exact if_neg (Nat.not_le.mpr more)

theorem takeCharacter_bodyEnd {c : Byte} {n : Nat} {kept : List Byte} (state : b.link.receiver = .body n kept)
    (last : kept.length + 1 = n) : b.takeCharacter c = b.receive (.check (kept ++ [c]) none) := by
  simp only [Bank.takeCharacter, state]
  exact if_pos (Nat.le_of_eq last.symm)

theorem takeCharacter_check {c : Byte} {kept : List Byte} (state : b.link.receiver = .check kept none) :
    b.takeCharacter c = b.receive (.check kept (some c)) := by
  simp only [Bank.takeCharacter, state]

theorem takeCharacter_judge {first c : Byte} {kept : List Byte} (state : b.link.receiver = .check kept (some first)) :
    b.takeCharacter c = b.judgeFrame kept first c := by
  simp only [Bank.takeCharacter, state]

/-- A frame is taken with the pair of CRC characters its sender appends (R174). -/
theorem judgeFrame_good {kind tag first c : Byte} {p : List Byte}
    (good : [first, c] = crcChars (crc16 (BitVec.ofNat 8 (p.length + 2) :: kind :: tag :: p))) :
    b.judgeFrame (kind :: tag :: p) first c = b.takeFrame kind tag p := if_pos ((eq_crcValue_iff _ _ _).mpr good)

/-- With any other pair it is discarded and counted (R174). -/
theorem judgeFrame_bad {kind tag first c : Byte} {p : List Byte}
    (bad : [first, c] ≠ crcChars (crc16 (BitVec.ofNat 8 (p.length + 2) :: kind :: tag :: p))) :
    b.judgeFrame (kind :: tag :: p) first c = b.crcMismatch := if_neg (mt (eq_crcValue_iff _ _ _).mp bad)

/-! ## The commands of the receiver -/

theorem exec_characterTaken {c : Byte} (taken : s.bank.takeCharacter c = b) :
    exec (.characterTaken c) s = .next { s with bank := b } := by
  rw [← taken]
  rfl

/-- The command that a good frame is, is the taking of that frame (R175). -/
theorem exec_frameCommand (kind tag : Byte) (p : List Byte) (s : State) :
    exec (frameCommand kind tag p) s = .next { s with bank := s.bank.takeFrame kind tag p } := by
  unfold frameCommand Bank.takeFrame
  cases Req.ofCode kind.toNat with
  | none => rfl
  | some r => exact exec_command r tag p s

theorem exec_invalidFrameLength {n : Byte} (bad : n.toNat < 2 ∨ 250 < n.toNat) :
    exec (.invalidFrameLength n) s = .next { s with bank := s.bank.receive .hunt } := by
  have discards : (if lengthInvalid n then s.bank.receive .hunt else s.bank) = s.bank.receive .hunt :=
    if_pos ((lengthInvalid_iff n).mpr bad)
  rw [← discards]
  rfl

/-- Settles O2: the receiver's states one by one, the discarding events, and the CRC. -/
theorem receiver : Obligations.Receiver := by
  refine ⟨fun s c => ⟨fun state => ?_, fun state low high => exec_characterTaken (takeCharacter_length state low high),
      fun state bad => exec_characterTaken (takeCharacter_badLength state bad),
      fun n kept state more => exec_characterTaken (takeCharacter_body state more),
      fun n kept state last => exec_characterTaken (takeCharacter_bodyEnd state last),
      fun kept state => exec_characterTaken (takeCharacter_check state)⟩,
    fun s => ⟨rfl, fun n => exec_invalidFrameLength, rfl, rfl⟩, crc16_append_chars, crc16_nine,
    fun s kind tag first c p _ state => ⟨fun good => ?_, fun bad => ?_⟩⟩
  · rw [exec_characterTaken (takeCharacter_hunt state)]
    split <;> rfl
  · rw [exec_characterTaken (takeCharacter_judge state), judgeFrame_good good, exec_frameCommand]
  · rw [exec_characterTaken (takeCharacter_judge state), judgeFrame_bad bad]
    rfl

/-! ## A frame, character by character -/

theorem feed_cons {c : Byte} {l : List Byte} (taken : s.bank.takeCharacter c = b) :
    feed (c :: l) s = feed l { s with bank := b } := by
  rw [feed, exec_characterTaken taken]

/-- The characters of a body are kept one after another, and the last of them brings the receiver to the CRC. -/
theorem feed_body {rest kept tail : List Byte} {n : Nat} (state : s.bank.link.receiver = .body n kept)
    (nonempty : rest ≠ []) (count : kept.length + rest.length = n) :
    feed (rest ++ tail) s = feed tail { s with bank := s.bank.receive (.check (kept ++ rest) none) } := by
  induction rest generalizing kept s with
  | nil => exact absurd rfl nonempty
  | cons c rest ih =>
    rw [List.length_cons] at count
    rw [List.cons_append]
    cases rest with
    | nil => exact feed_cons (takeCharacter_bodyEnd state (by simpa using count))
    | cons d rest =>
      have more : kept.length + 1 < n := by rw [List.length_cons] at count; omega
      rw [feed_cons (takeCharacter_body state more), ih rfl (List.cons_ne_nil d rest)
        (by rw [List.length_append, List.length_singleton]; omega)]
      simp only [receive_receive, List.append_assoc, List.singleton_append]

/-- A frame's characters up to its CRC bring a receiver from HUNT to the judgement of its body. -/
theorem feed_frameBody {kind tag : Byte} {p tail : List Byte} (fits : p.length ≤ 248)
    (state : s.bank.link.receiver = .hunt) :
    feed (0x5A :: BitVec.ofNat 8 (p.length + 2) :: (kind :: tag :: p) ++ tail) s =
      feed tail { s with bank := s.bank.receive (.check (kind :: tag :: p) none) } := by
  have length : (BitVec.ofNat 8 (p.length + 2)).toNat = p.length + 2 := by
    rw [BitVec.toNat_ofNat]
    omega
  have started : s.bank.takeCharacter 0x5A = s.bank.receive .length := (takeCharacter_hunt state).trans (if_pos rfl)
  have counted : (s.bank.receive .length).takeCharacter (BitVec.ofNat 8 (p.length + 2)) =
      s.bank.receive (.body (p.length + 2) []) := by
    rw [takeCharacter_length rfl (by omega) (by omega), length, receive_receive]
  rw [List.cons_append, List.cons_append, feed_cons started, feed_cons counted,
    feed_body rfl (List.cons_ne_nil _ _) (by simp)]
  rfl

/-- A request is taken from HUNT, whatever state the frame has left the receiver in (R173). -/
theorem hunting_receive (r : Receiver) : (b.receive r).hunting = b.hunting := rfl

theorem takeFrame_receive (r : Receiver) (kind tag : Byte) (p : List Byte) :
    (b.receive r).takeFrame kind tag p = b.takeFrame kind tag p := by
  unfold Bank.takeFrame
  cases Req.ofCode kind.toNat with
  | none => rfl
  | some q =>
    dsimp only
    rcases takeRequest_shape q with ⟨_, owner, taken⟩ | ⟨_, owner, taken⟩
    · rw [taken, taken]
      rfl
    · rw [taken, taken]
      rfl

theorem feed_frameChars {kind tag : Byte} {p : List Byte} (fits : p.length ≤ 248) (state : s.bank.link.receiver = .hunt) :
    feed (frameChars kind tag p) s = .next { s with bank := s.bank.takeFrame kind tag p } := by
  refine (feed_frameBody fits state).trans ?_
  rw [crcChars, feed_cons (takeCharacter_check rfl), receive_receive,
    feed_cons ((takeCharacter_judge rfl).trans ((judgeFrame_good rfl).trans (takeFrame_receive _ kind tag p)))]
  rfl

/-- Every request that is a well-formed command is a frame of 6 to 254 characters (R173). -/
theorem frameLength : ∀ i : Instr, Laws.FrameLength.Statement i
  | .powerUp => Laws.FrameLength.powerUp
  | .loadSteps t p => Laws.FrameLength.loadSteps t p
  | .clearSteps t p => Laws.FrameLength.clearSteps t p
  | .readSteps t p => Laws.FrameLength.readSteps t p
  | .startRun t p => Laws.FrameLength.startRun t p
  | .abortRun t p => Laws.FrameLength.abortRun t p
  | .resetTube t p => Laws.FrameLength.resetTube t p
  | .hold t p => Laws.FrameLength.hold t p
  | .release t p => Laws.FrameLength.release t p
  | .setIdleTemperature t p => Laws.FrameLength.setIdleTemperature t p
  | .configureZones t p => Laws.FrameLength.configureZones t p
  | .setPowerLimit t p => Laws.FrameLength.setPowerLimit t p
  | .readReadings t p => Laws.FrameLength.readReadings t p
  | .configureChannels t p => Laws.FrameLength.configureChannels t p
  | .setGasMap t p => Laws.FrameLength.setGasMap t p
  | .setSupplyLimit t p => Laws.FrameLength.setSupplyLimit t p
  | .setGateLimits t p => Laws.FrameLength.setGateLimits t p
  | .configureRail t p => Laws.FrameLength.configureRail t p
  | .locateBoat t p => Laws.FrameLength.locateBoat t p
  | .moveBoat t p => Laws.FrameLength.moveBoat t p
  | .clearMotionFault t p => Laws.FrameLength.clearMotionFault t p
  | .setSpeedTable t p => Laws.FrameLength.setSpeedTable t p
  | .setActionTable t p => Laws.FrameLength.setActionTable t p
  | .setReportLevel t p => Laws.FrameLength.setReportLevel t p
  | .readBank t p => Laws.FrameLength.readBank t p
  | .restartBank t p => Laws.FrameLength.restartBank t p
  | .readTube t p => Laws.FrameLength.readTube t p
  | .readInterlocks t p => Laws.FrameLength.readInterlocks t p
  | .unknownKind k t p => Laws.FrameLength.unknownKind k t p
  | .crcError => Laws.FrameLength.crcError
  | .invalidFrameLength a => Laws.FrameLength.invalidFrameLength a
  | .receiveGap => Laws.FrameLength.receiveGap
  | .framingError => Laws.FrameLength.framingError
  | .transmitComplete => Laws.FrameLength.transmitComplete
  | .runEngineExpiry a => Laws.FrameLength.runEngineExpiry a
  | .rampExpiry a => Laws.FrameLength.rampExpiry a
  | .zoneLoopExpiry a => Laws.FrameLength.zoneLoopExpiry a
  | .gasSample a b => Laws.FrameLength.gasSample a b
  | .tcConversion a => Laws.FrameLength.tcConversion a
  | .interlockInputChange a b c => Laws.FrameLength.interlockInputChange a b c
  | .interlockInputTaken a b => Laws.FrameLength.interlockInputTaken a b
  | .sealSensorChange a b => Laws.FrameLength.sealSensorChange a b
  | .sealSensorTaken a => Laws.FrameLength.sealSensorTaken a
  | .paddleStep a => Laws.FrameLength.paddleStep a
  | .markRead a b => Laws.FrameLength.markRead a b
  | .characterTaken a => Laws.FrameLength.characterTaken a
  | .bankTick => Laws.FrameLength.bankTick

/-- Settles O3: a frame taken from HUNT is judged whole, and its own CRC is the one that is taken. -/
theorem framesSpellTheirCommands : Obligations.FramesSpellTheirCommands :=
  ⟨fun s kind tag p fits state => (feed_frameChars fits state).trans (exec_frameCommand kind tag p s).symm, frameLength⟩

end Sys2Proof.Proofs.Reception
end

section
/-! SUPPORT. Proof of the statement about the layout of the step record (chapter 11): its characters cut into the parts that
the walk of a LOAD STEPS payload takes off, the presence character read flag by flag, and each part read back as the part it
was written from. -/

namespace Sys2Proof.Proofs.RecordLayout

open Sys2Proof Sys2Proof.Machine
open Sys2Proof.Proofs.Ramps (within_iff)

/-! ## The characters of each part (R190) -/

/-- The presence character and the two times, which every record has. -/
def coreBytes (r : StepRecord) : List Byte := leBytes 1 r.presence ++ (leBytes 3 r.duration ++ leBytes 3 r.maxTime)
/-- The characters of a thermal part but for its offsets, which are under a flag of their own. -/
def thermalBytes (q : ThermalPart) : List Byte :=
  leBytes 3 q.target ++ (leBytes 2 q.rate ++ (leBytes 3 q.band ++ leBytes 2 q.lagLimit))
def offsetBytes (o : Vector Int 3) : List Byte := leBytes 3 o[0] ++ (leBytes 3 o[1] ++ leBytes 3 o[2])
def stabilityBytes (q : StabilityPart) : List Byte := leBytes 3 q.band ++ leBytes 2 q.time
def gasBytes (l : List GasEntry) : List Byte := leBytes 1 l.length ++ entryBytes l
def purgeBytes (v : Nat) : List Byte := leBytes 4 v
def motionBytes (q : MotionPart) : List Byte := leBytes 2 q.target ++ leBytes 2 q.speed
def repeatBytes (q : RepeatPart) : List Byte := leBytes 1 q.toIndex ++ leBytes 1 q.count

/-- The offsets of a record, present only within its thermal part. -/
def offsetsOf (x : Option ThermalPart) : Option (Vector Int 3) := x.bind (·.offsets)

/-- The characters of the offsets follow the rest of the thermal part, and so can be taken off as a part of their own. -/
theorem partBytes_offsets (x : Option ThermalPart) (f : ThermalPart → List Byte) (g : Vector Int 3 → List Byte) :
    partBytes x (fun q => f q ++ partBytes q.offsets g) = partBytes x f ++ partBytes (offsetsOf x) g := by
  cases x <;> rfl

/-- The characters of a record in the order in which the walk takes them. -/
theorem bytes_append (r : StepRecord) (after : List Byte) :
    r.bytes ++ after = coreBytes r ++ (partBytes r.thermal thermalBytes ++ (partBytes (offsetsOf r.thermal) offsetBytes
      ++ (partBytes r.stability stabilityBytes ++ (partBytes r.gas gasBytes ++ (partBytes r.purge purgeBytes
      ++ (partBytes r.motion motionBytes ++ (partBytes r.repetition repeatBytes ++ after))))))) := by
  rw [StepRecord.bytes, partBytes_offsets, coreBytes]
  simp only [List.append_assoc]
  rfl

/-! ## The presence character -/

/-- The number whose bits are the given flags, the least significant first. -/
def flagsNumber : List Bool → Nat
  | [] => 0
  | b :: l => b.toNat + 2 * flagsNumber l

theorem testBit_flagsNumber (l : List Bool) (i : Nat) : (flagsNumber l).testBit i = l.getD i false := by
  induction l generalizing i with
  | nil => exact Nat.zero_testBit i
  | cons b l ih =>
    cases i with
    | zero =>
      rw [flagsNumber, Nat.testBit_zero, Nat.add_mul_mod_self_left]
      cases b <;> rfl
    | succ i =>
      have half : (b.toNat + 2 * flagsNumber l) / 2 = flagsNumber l := by
        have := b.toNat_le
        omega
      rw [flagsNumber, Nat.testBit_succ, half, ih, List.getD_cons_succ]

theorem weight_eq (b : Bool) (k : Nat) : (if b then k else 0) = k * b.toNat := by
  cases b with
  | false => rfl
  | true => exact (Nat.mul_one k).symm

theorem isSome_offsetsOf (x : Option ThermalPart) : (offsetsOf x).isSome = x.any (·.offsets.isSome) := by
  cases x <;> rfl

/-- The flags of a record in the order of their weights. -/
def flagsOf (r : StepRecord) : List Bool :=
  [r.thermal.isSome, (offsetsOf r.thermal).isSome, r.stability.isSome, r.gas.isSome, r.purge.isSome, r.motion.isSome,
    r.repetition.isSome, r.final]

theorem presence_eq_flagsNumber (r : StepRecord) : r.presence = flagsNumber (flagsOf r) := by
  simp only [StepRecord.presence, flagsOf, isSome_offsetsOf, weight_eq, flagsNumber]
  omega

/-- Each bit of the presence character is the record's flag of that weight. -/
theorem getLsbD_presence (r : StepRecord) {i : Nat} (small : i < 8) :
    (BitVec.ofInt 8 r.presence).getLsbD i = (flagsOf r).getD i false := by
  rw [BitVec.ofInt_natCast, BitVec.getLsbD_ofNat, presence_eq_flagsNumber, testBit_flagsNumber, decide_eq_true small,
    Bool.true_and]

/-! ## The core -/

section core

variable {r : StepRecord} (rest : List Byte)

theorem core_fits : ¬ (coreBytes r ++ rest).length < 7 := by
  simp only [coreBytes, List.length_append, leBytes_length]
  omega

theorem drop_core : (coreBytes r ++ rest).drop 7 = rest := rfl

theorem getD_core : (coreBytes r ++ rest).getD 0 0 = BitVec.ofInt 8 r.presence := rfl

theorem read_duration (ok : r.duration ≤ 86400) : u24 (coreBytes r ++ rest) 1 = r.duration :=
  (u24_drop _ _).trans (u24_leBytes _ (by omega) (leBytes 3 r.maxTime ++ rest))

theorem read_maxTime (ok : r.maxTime ≤ 172800) : u24 (coreBytes r ++ rest) 4 = r.maxTime :=
  (u24_drop _ _).trans (u24_leBytes _ (by omega) rest)

end core

/-! ## Each part read back -/

/-- A part that may be absent is read back when every legal part is. -/
theorem map_read {α β : Type} {x : Option α} {legal : α → Bool} {write : α → β} {read : β → α} (ok : x.all legal = true)
    (back : ∀ a, legal a = true → read (write a) = a) : (x.map write).map read = x := by
  cases x with
  | none => rfl
  | some a => exact congrArg some (back a ok)

theorem read_offsetBytes {o : Vector Int 3} (ok : ∀ z : Zone, within o[z] (-5000) 5000 = true) :
    readOffsets (offsetBytes o) = o := by
  have read (z : Zone) (l : List Byte) : s24 (leBytes 3 o[z] ++ l) 0 = o[z] := by
    have := (within_iff ..).1 (ok z)
    exact s24_leBytes _ (by omega) (by omega) l
  have load : s24 (offsetBytes o) 0 = o[0] := read 0 _
  have center : s24 (offsetBytes o) 3 = o[1] := (s24_drop _ _).trans (read 1 _)
  have source : s24 (offsetBytes o) 6 = o[2] := (s24_drop _ _).trans (read 2 [])
  ext i hi
  match i with
  | 0 => exact load
  | 1 => exact center
  | 2 => exact source

theorem read_thermalBytes {q : ThermalPart} (ok : q.legal = true) :
    (⟨s24 (thermalBytes q) 0, u16 (thermalBytes q) 3, (q.offsets.map offsetBytes).map readOffsets,
      s24 (thermalBytes q) 5, u16 (thermalBytes q) 8⟩ : ThermalPart) = q := by
  simp only [ThermalPart.legal, Bool.and_eq_true, within_iff, decide_eq_true_eq] at ok
  obtain ⟨⟨⟨⟨target, rate⟩, band⟩, lagLimit⟩, offsets⟩ := ok
  have ho : (q.offsets.map offsetBytes).map readOffsets = q.offsets :=
    map_read offsets fun o ok => read_offsetBytes fun z => List.all_eq_true.1 ok z (by revert z; decide)
  have ht : s24 (thermalBytes q) 0 = q.target := s24_leBytes _ (by omega) (by omega) _
  have hr : u16 (thermalBytes q) 3 = q.rate := (u16_drop _ _).trans (u16_leBytes _ (by omega) _)
  have hb : s24 (thermalBytes q) 5 = q.band := (s24_drop _ _).trans (s24_leBytes _ (by omega) (by omega) _)
  have hl : u16 (thermalBytes q) 8 = q.lagLimit := (u16_drop _ _).trans (u16_leBytes _ (by omega) [])
  rw [ho, ht, hr, hb, hl]

theorem read_thermal {x : Option ThermalPart} (ok : x.all ThermalPart.legal = true) :
    (x.map thermalBytes).map (fun q =>
      ⟨s24 q 0, u16 q 3, ((offsetsOf x).map offsetBytes).map readOffsets, s24 q 5, u16 q 8⟩) = x := by
  cases x with
  | none => rfl
  | some q => exact congrArg some (read_thermalBytes ok)

theorem read_stability {x : Option StabilityPart} (ok : x.all StabilityPart.legal = true) :
    (x.map stabilityBytes).map (fun q => ⟨s24 q 0, u16 q 3⟩) = x := by
  refine map_read ok fun q ok => ?_
  simp only [StabilityPart.legal, Bool.and_eq_true, within_iff] at ok
  obtain ⟨band, time⟩ := ok
  have hb : s24 (stabilityBytes q) 0 = q.band := s24_leBytes _ (by omega) (by omega) _
  have ht : u16 (stabilityBytes q) 3 = q.time := (u16_drop _ _).trans (u16_leBytes _ (by omega) [])
  rw [hb, ht]

theorem read_entryCount {l : List GasEntry} (ok : gasPartLegal l = true) (rest : List Byte) :
    u8 (gasBytes l ++ rest) 0 = l.length := by
  simp only [gasPartLegal, Bool.and_eq_true, decide_eq_true_eq] at ok
  obtain ⟨⟨few, -⟩, -⟩ := ok
  exact u8_leBytes _ (by omega) (entryBytes l ++ rest)

theorem read_gas {x : Option (List GasEntry)} (ok : x.all gasPartLegal = true) :
    (x.map gasBytes).map (fun q => readGasEntries (u8 q 0) (q.drop 1)) = x := by
  refine map_read ok fun l ok => ?_
  have count := read_entryCount ok []
  rw [List.append_nil] at count
  simp only [gasPartLegal, Bool.and_eq_true, decide_eq_true_eq, List.all_eq_true, within_iff] at ok
  obtain ⟨⟨-, entries⟩, -⟩ := ok
  rw [count]
  refine readGasEntries_entryBytes l fun e he => ?_
  have := entries e he
  omega

theorem read_purge {x : Option Nat} (ok : x.all (fun v => within v 1 2000000000) = true) :
    (x.map purgeBytes).map (fun q => u32 q 0) = x := by
  cases x with
  | none => rfl
  | some v =>
    have := (within_iff ..).1 ok
    exact congrArg some (u32_leBytes v (by omega) [])

theorem read_motion {x : Option MotionPart} (ok : x.all MotionPart.legal = true) :
    (x.map motionBytes).map (fun q => ⟨u16 q 0, u16 q 2⟩) = x := by
  refine map_read ok fun q ok => ?_
  simp only [MotionPart.legal, Bool.and_eq_true, within_iff, decide_eq_true_eq] at ok
  obtain ⟨target, speed⟩ := ok
  have ht : u16 (motionBytes q) 0 = q.target := u16_leBytes _ (by omega) _
  have hs : u16 (motionBytes q) 2 = q.speed := (u16_drop _ _).trans (u16_leBytes _ (by omega) [])
  rw [ht, hs]

theorem read_repetition {x : Option RepeatPart} {slot : Nat} (last : slot ≤ 63)
    (ok : x.all (fun q => q.legal slot) = true) : (x.map repeatBytes).map (fun q => ⟨u8 q 0, u8 q 1⟩) = x := by
  refine map_read ok fun q ok => ?_
  simp only [RepeatPart.legal, Bool.and_eq_true, within_iff, decide_eq_true_eq] at ok
  obtain ⟨toIndex, count⟩ := ok
  have hi : u8 (repeatBytes q) 0 = q.toIndex := u8_leBytes _ (by omega) _
  have hc : u8 (repeatBytes q) 1 = q.count := (u8_drop _ _).trans (u8_leBytes _ (by omega) [])
  rw [hi, hc]

/-! ## The walk -/

/-- The gas part is as long as its own entry count says. -/
theorem takeGas_gasBytes {x : Option (List GasEntry)} (ok : x.all gasPartLegal = true) (rest : List Byte) :
    takeGas x.isSome (partBytes x gasBytes ++ rest) = some (x.map gasBytes, rest) := by
  refine takePart_partBytes x gasBytes _ (fun l present => ?_) rest
  subst present
  rw [partBytes, read_entryCount ok, gasBytes, List.length_append, leBytes_length, entryBytes_length]

/-- Written offsets are never without a thermal part. -/
theorem offsets_not_orphan (x : Option ThermalPart) :
    (((offsetsOf x).map offsetBytes).isSome && (x.map thermalBytes).isNone) = false := by
  cases x with
  | none => rfl
  | some q => exact Bool.and_false _

/-- A legal record is read back from the front of a payload. -/
theorem parseRecord_bytes {r : StepRecord} {slot : Nat} (last : slot ≤ 63) (ok : r.legal slot = true) (after : List Byte) :
    parseRecord (r.bytes ++ after) = some (⟨r, false⟩, after) := by
  simp only [StepRecord.legal, Bool.and_eq_true, decide_eq_true_eq] at ok
  obtain ⟨⟨⟨⟨⟨⟨⟨⟨duration, maxTime⟩, -⟩, thermal⟩, stability⟩, gas⟩, purge⟩, motion⟩, repetition⟩ := ok
  rw [bytes_append]
  simp only [parseRecord, core_fits, if_false, drop_core, getD_core, getLsbD_presence, Nat.reduceLT, flagsOf,
    List.getD_cons_zero, List.getD_cons_succ,
    takePart_partBytes _ thermalBytes 10 fun _ _ => rfl, takePart_partBytes _ offsetBytes 9 fun _ _ => rfl,
    takePart_partBytes _ stabilityBytes 5 fun _ _ => rfl, takeGas_gasBytes gas,
    takePart_partBytes _ purgeBytes 4 fun _ _ => rfl, takePart_partBytes _ motionBytes 4 fun _ _ => rfl,
    takePart_partBytes _ repeatBytes 2 fun _ _ => rfl]
  simp only [read_duration _ duration, read_maxTime _ maxTime, read_thermal thermal, read_stability stability, read_gas gas,
    read_purge purge, read_motion motion, read_repetition last repetition, offsets_not_orphan]

/-- Settles O16: a record is walked part after part, and a list of records by induction. -/
theorem recordsAreReadAsWritten : Obligations.RecordsAreReadAsWritten := by
  refine ⟨fun r slot after last ok => parseRecord_bytes last ok after, fun l => ?_⟩
  induction l with
  | nil => exact fun _ => rfl
  | cons r l ih =>
    intro ok
    obtain ⟨slot, last, legal⟩ := ok r List.mem_cons_self
    have rest := ih fun q here => ok q (List.mem_cons_of_mem r here)
    simp only [List.flatMap_cons, List.length_cons, parseRecords, parseRecord_bytes last legal, rest, Option.map_some,
      List.map_cons]

end Sys2Proof.Proofs.RecordLayout
end

section
/-! SUPPORT. Proofs of the statements about the queue of commands and about what a command leaves: a step takes the command
in front, and a setting that a command may not write stands. What writes a setting does so by a primitive update of the bank,
which leaves every other setting; everything else that a command does leaves them all (`Unset`). -/

namespace Sys2Proof.Proofs.Settings

open Sys2Proof Sys2Proof.Machine
open Sys2Proof.Proofs.LinkSafety (nowhere unset_refl keeps_publish)

variable {k : Setting} {b b' b'' : Bank} {t : Tube}

/-! ## The queue of commands -/

/-- Settles O1: both halves are the two arms of `step`. -/
theorem stepTakesFront : Obligations.StepTakesFront := by
  refine ⟨fun c s => rfl, fun s empty => ?_⟩
  unfold step
  rw [empty]

/-! ## A setting that stands, from one bank to the next -/

theorem same_refl (k : Setting) (b : Bank) : k.same b b := (unset_refl b).2 k

theorem same_trans (first : k.same b b') (second : k.same b' b'') : k.same b b'' := by
  cases k with
  | gateLimits | readings => exact ⟨second.1.trans first.1, second.2.trans first.2⟩
  | sensors => exact fun t => ⟨(second t).1.trans (first t).1, (second t).2.trans (first t).2⟩
  | zones | channels | rails | speedTables | records => exact fun t => (second t).trans (first t)
  | _ => exact second.trans first

/-- An operation that writes no setting, whichever bank the settings are compared with. -/
theorem same_of_unset (keeps : ∀ b₀, Unset b₀ nowhere nowhere b → Unset b₀ nowhere nowhere b') : k.same b b' :=
  (keeps b (unset_refl b)).2 k

theorem same_eachTube {f : Tube → Bank → Bank} (one : ∀ t b, k.same b (f t b)) (b : Bank) : k.same b (b.eachTube f) := by
  unfold Bank.eachTube
  induction allTubes generalizing b with
  | nil => exact same_refl k b
  | cons t l ih => exact same_trans (one t b) (ih (f t b))

/-! ## The primitive updates: each leaves every setting but the one it writes -/

theorem same_gasMap (v : Vector MapEntry 16) (other : k ≠ .gasMap) : k.same b { b with gasMap := v } := by
  have stands := same_refl k b
  cases k with
  | gasMap => exact absurd rfl other
  | _ => exact stands

theorem same_modSupply (f : Supply → Supply) (other : k ≠ .supplyLimits) : k.same b (b.modSupply f) := by
  have stands := same_refl k b
  cases k with
  | supplyLimits => exact absurd rfl other
  | _ => exact stands

theorem same_gateLimits (threshold : Int) (ratio : Nat) (other : k ≠ .gateLimits) :
    k.same b { b with threshold := threshold, ratio := ratio } := by
  have stands := same_refl k b
  cases k with
  | gateLimits => exact absurd rfl other
  | _ => exact stands

theorem same_powerLimit (limit : Nat) (other : k ≠ .powerLimit) : k.same b { b with powerLimit := limit } := by
  have stands := same_refl k b
  cases k with
  | powerLimit => exact absurd rfl other
  | _ => exact stands

theorem same_tables (v : Vector (Vector Nat 256) 10) (other : k ≠ .actionTables) :
    k.same b { b with interlock := { b.interlock with tables := v } } := by
  have stands := same_refl k b
  cases k with
  | actionTables => exact absurd rfl other
  | _ => exact stands

theorem same_modGroup (g : Group) (f : InterlockGroup → InterlockGroup) (other : k ≠ .groups) :
    k.same b (b.modGroup g f) := by
  have stands := same_refl k b
  cases k with
  | groups => exact absurd rfl other
  | _ => exact stands

theorem same_modScanner (f : Scanner → Scanner) (other : k ≠ .readings) : k.same b (b.modScanner f) := by
  have stands := same_refl k b
  cases k with
  | readings => exact absurd rfl other
  | _ => exact stands

/-- Of the link, the report level alone is a setting; reports that wait for the end of an event are none. -/
theorem same_link {l : Link} (o : List Report) (level : l.reportLevel = b.link.reportLevel) :
    k.same b { b with link := l, outbox := o } := by
  have stands := same_refl k b
  cases k with
  | reportLevel => exact level
  | _ => exact stands

theorem same_reportLevel (level : Nat) (other : k ≠ .reportLevel) :
    k.same b { b with link := { b.link with reportLevel := level } } := by
  have stands := same_refl k b
  cases k with
  | reportLevel => exact absurd rfl other
  | _ => exact stands

/-- A setting of a tube stands the same in two states of the tube; the other settings are not the tube's. -/
def sameTube (k : Setting) (x y : TubeState) : Prop :=
  match k with
  | .zones => y.zonesConfig = x.zonesConfig
  | .channels => y.gas.config = x.gas.config
  | .rails => y.boat.rail = x.boat.rail
  | .speedTables => y.boat.table = x.boat.table
  | .sensors => y.boat.sensorRaw = x.boat.sensorRaw ∧ y.boat.sensor = x.boat.sensor
  | .records => y.run.records = x.run.records
  | _ => True

theorem sameTube_refl (k : Setting) (x : TubeState) : sameTube k x x := by
  cases k with
  | sensors => exact ⟨rfl, rfl⟩
  | zones | channels | rails | speedTables | records => exact rfl
  | _ => exact trivial

/-- Whichever tube is asked, an update of one tube leaves it as it was or is the update. -/
theorem same_modTube {f : TubeState → TubeState} (kept : sameTube k (b.tube t) (f (b.tube t))) :
    k.same b (b.modTube t f) := by
  have each : ∀ u, sameTube k (b.tube u) ((b.modTube t f).tube u) := by
    intro u
    rw [Bank.tube_modTube]
    split
    · subst_vars
      exact kept
    · exact sameTube_refl k _
  have stands := same_refl k b
  cases k with
  | zones | channels | rails | speedTables | sensors | records => exact each
  | _ => exact stands

theorem same_zonesConfig (c : Option ZonesConfig) (other : k ≠ .zones) :
    k.same b (b.modTube t fun x => { x with zonesConfig := c }) := by
  refine same_modTube ?_
  have stands := sameTube_refl k (b.tube t)
  cases k with
  | zones => exact absurd rfl other
  | _ => exact stands

theorem same_modLoops (f : Vector ZoneLoop 3 → Vector ZoneLoop 3) : k.same b (b.modLoops t f) := by
  refine same_modTube ?_
  have stands := sameTube_refl k (b.tube t)
  cases k with
  | _ => exact stands

theorem same_modShare (f : Share → Share) : k.same b (b.modShare t f) := by
  refine same_modTube ?_
  have stands := sameTube_refl k (b.tube t)
  cases k with
  | _ => exact stands

theorem same_modRun (f : RunEngine → RunEngine) (other : k ≠ .records) : k.same b (b.modRun t f) := by
  refine same_modTube ?_
  have stands := sameTube_refl k (b.tube t)
  cases k with
  | records => exact absurd rfl other
  | _ => exact stands

theorem same_modGas (f : GasUnit → GasUnit) (other : k ≠ .channels) : k.same b (b.modGas t f) := by
  refine same_modTube ?_
  have stands := sameTube_refl k (b.tube t)
  cases k with
  | channels => exact absurd rfl other
  | _ => exact stands

theorem same_rail (r : Option Rail) (other : k ≠ .rails) : k.same b (b.modBoat t fun x => { x with rail := r }) := by
  refine same_modTube ?_
  have stands := sameTube_refl k (b.tube t)
  cases k with
  | rails => exact absurd rfl other
  | _ => exact stands

theorem same_speedTable (v : Vector Nat 16) (other : k ≠ .speedTables) :
    k.same b (b.modBoat t fun x => { x with table := v }) := by
  refine same_modTube ?_
  have stands := sameTube_refl k (b.tube t)
  cases k with
  | speedTables => exact absurd rfl other
  | _ => exact stands

/-- An update of a Boat Drive that leaves the rail and the speed table writes the sensor at most. -/
theorem same_sensor {f : Boat → Boat} (rail : (f (b.boat t)).rail = (b.boat t).rail)
    (table : (f (b.boat t)).table = (b.boat t).table) (other : k ≠ .sensors) : k.same b (b.modBoat t f) := by
  refine same_modTube ?_
  have stands := sameTube_refl k (b.tube t)
  cases k with
  | sensors => exact absurd rfl other
  | rails => exact rail
  | speedTables => exact table
  | _ => exact stands

/-! ## The report level through the transmit side -/

theorem reportLevel_queueReport (l : Link) (r : Report) : (l.queueReport r).reportLevel = l.reportLevel := by
  unfold Link.queueReport
  split
  · rfl
  · split <;> rfl

theorem reportLevel_announceLost (l : Link) (clock : BitVec 32) : (l.announceLost clock).reportLevel = l.reportLevel := by
  unfold Link.announceLost
  split
  · exact reportLevel_queueReport _ _
  · rfl

theorem reportLevel_startNext (l : Link) (clock : BitVec 32) : (l.startNext clock).reportLevel = l.reportLevel := by
  unfold Link.startNext
  split
  · rfl
  · rfl
  · exact reportLevel_announceLost _ _
  · rfl

theorem reportLevel_offer (l : Link) (clock : BitVec 32) (r : Report) :
    (Link.offer clock l r).reportLevel = l.reportLevel := by
  unfold Link.offer
  split
  · rfl
  · exact (reportLevel_startNext _ _).trans (reportLevel_queueReport _ _)

theorem reportLevel_offerAll (l : Link) (clock : BitVec 32) (reports : List Report) :
    (reports.foldl (Link.offer clock) l).reportLevel = l.reportLevel := by
  induction reports generalizing l with
  | nil => rfl
  | cons r reports ih => exact (ih _).trans (reportLevel_offer l clock r)

/-! ## The receiver, the end of an event and the taking of a request -/

theorem same_receive (r : Receiver) : k.same b (b.receive r) := same_link b.outbox rfl

theorem same_crcMismatch : k.same b b.crcMismatch := same_link b.outbox rfl

theorem same_discard : k.same b b.discard := same_link b.outbox rfl

theorem same_transmitComplete : k.same b b.transmitComplete := by
  unfold Bank.transmitComplete
  split
  · exact same_refl k b
  · exact same_link b.outbox (reportLevel_startNext _ _)

theorem same_settle (b : Bank) : k.same b (b.settle publish) :=
  same_of_unset fun b₀ h => (kept_unset b₀).settle (keeps_publish b₀) h

theorem same_close (b : Bank) : k.same b b.close :=
  same_trans (same_settle b) (same_link [] (reportLevel_offerAll _ _ _))

theorem same_conclude {d : Decision} (kind tag : Byte) (decided : k.same b d.1) :
    k.same b (Bank.conclude d kind tag) := by
  have placed : k.same d.1 (d.1.placeReply (kind + 0x80) tag d.2) :=
    same_link d.1.outbox (reportLevel_startNext _ _)
  exact same_trans decided (same_trans placed (same_close _))

theorem same_takeTubeRequest {r : Req} {tag : Byte} {p : List Byte} {owner : Tube → List Byte → Bank → Decision}
    (decides : ∀ t b, k.same b (owner t p b).1) (b : Bank) : k.same b (b.takeTubeRequest r tag p owner) := by
  refine same_trans (same_receive .hunt) ?_
  unfold Bank.takeTubeRequest
  dsimp only
  split
  · exact same_discard
  · refine same_conclude _ _ ?_
    split
    · exact same_refl k _
    · split
      · exact same_refl k _
      · split
        · exact same_refl k _
        · exact decides _ _

theorem same_takeBankRequest {r : Req} {tag : Byte} {p : List Byte} {owner : List Byte → Bank → Decision}
    (decides : ∀ b, k.same b (owner p b).1) (b : Bank) : k.same b (b.takeBankRequest r tag p owner) := by
  refine same_trans (same_receive .hunt) ?_
  unfold Bank.takeBankRequest
  dsimp only
  split
  · exact same_discard
  · refine same_conclude _ _ ?_
    split
    · exact same_refl k _
    · exact decides _

theorem same_takeUnknown (kind tag : Byte) (b : Bank) : k.same b (b.takeUnknown kind tag) := by
  refine same_trans (same_receive .hunt) ?_
  unfold Bank.takeUnknown
  dsimp only
  split
  · exact same_refl k _
  · split
    · exact same_discard
    · exact same_conclude _ _ (same_refl k _)

/-- An event, with what follows at its end. -/
theorem same_event {f : Bank → Bank} (event : k.same b (f b)) : k.same b (f b).close :=
  same_trans event (same_close _)

/-! ## The decisions of the owners that write a setting -/

/-- An answer leaves the bank as its owner made it. -/
theorem answer_fst (b : Bank) (items : List Byte) : (b.answer items).1 = b := rfl

theorem same_loadSteps (p : List Byte) (other : k ≠ .records) (t : Tube) (b : Bank) : k.same b (b.loadSteps t p).1 := by
  unfold Bank.loadSteps
  dsimp only
  split
  · exact same_refl k b
  · exact same_modRun _ other

theorem same_clearSteps (p : List Byte) (other : k ≠ .records) (t : Tube) (b : Bank) :
    k.same b (b.clearSteps t p).1 := by
  unfold Bank.clearSteps
  split
  · exact same_refl k b
  · exact same_modRun _ other

theorem same_configureZones (p : List Byte) (other : k ≠ .zones) (t : Tube) (b : Bank) :
    k.same b (b.configureZones publish t p).1 := by
  unfold Bank.configureZones
  dsimp only
  split
  · exact same_refl k b
  · split
    · exact same_refl k b
    · refine same_trans (same_zonesConfig (t := t) (some (readZones p)) other) (same_of_unset fun b₀ h => ?_)
      exact (kept_unset b₀).applyZones (keeps_publish b₀) t _
        ((kept_unset b₀).completeConfiguration (keeps_publish b₀) t h)

theorem unset_applyChannels {b₀ : Bank} (before : Supply) (h : Unset b₀ nowhere nowhere b) :
    Unset b₀ nowhere nowhere (b.applyChannels t before) := by
  have K := kept_unset b₀
  have restarted := K.gas t (fun g => { g with channels := g.channels.map GasChannel.restartTimers }) rfl
    (fun c => by simp [GasChannel.restartTimers]) (K.setIdlePurge t h)
  have driven := K.drive t (K.unformed t restarted)
  exact kept_ite (fun _ => K.callReexamination driven) fun _ => driven

theorem same_configureChannels (p : List Byte) (other : k ≠ .channels) (t : Tube) (b : Bank) :
    k.same b (b.configureChannels publish t p).1 := by
  unfold Bank.configureChannels
  dsimp only
  split
  · exact same_refl k b
  · split
    · exact same_refl k b
    · split
      · exact same_refl k b
      · refine same_trans (same_modGas (t := t) (fun u => { u with config := some (readGasConfig p) }) other)
          (same_of_unset fun b₀ h => ?_)
        exact unset_applyChannels _ ((kept_unset b₀).completeConfiguration (keeps_publish b₀) t h)

theorem takeRail_leaves (x : Boat) (r : Rail) : (x.takeRail r).rail = x.rail ∧ (x.takeRail r).table = x.table
    ∧ (x.takeRail r).sensorRaw = x.sensorRaw ∧ (x.takeRail r).sensor = x.sensor := by
  unfold Boat.takeRail Boat.giveUpPosition
  split <;> exact ⟨rfl, rfl, rfl, rfl⟩

theorem unset_applyRail {b₀ : Bank} (r : Rail) (h : Unset b₀ nowhere nowhere b) :
    Unset b₀ nowhere nowhere (b.applyRail publish t r) := by
  obtain ⟨rail, table, raw, sensor⟩ := takeRail_leaves (b.boat t) r
  exact (kept_unset b₀).judgeSeal (keeps_publish b₀) t
    ((kept_unset b₀).judgeMotion (keeps_publish b₀) t (unset_boat rail table raw sensor h))

theorem same_configureRail (p : List Byte) (other : k ≠ .rails) (t : Tube) (b : Bank) :
    k.same b (b.configureRail publish t p).1 := by
  unfold Bank.configureRail
  dsimp only
  split
  · exact same_refl k b
  · split
    · exact same_refl k b
    · split
      · exact same_refl k b
      · refine same_trans (same_rail (t := t) (some (readRail p)) other) (same_of_unset fun b₀ h => ?_)
        rw [answer_fst]
        exact unset_applyRail (readRail p) ((kept_unset b₀).completeConfiguration (keeps_publish b₀) t h)

theorem same_setSpeedTable (p : List Byte) (other : k ≠ .speedTables) (t : Tube) (b : Bank) :
    k.same b (b.setSpeedTable t p).1 := by
  unfold Bank.setSpeedTable
  split
  · exact same_refl k b
  · exact same_speedTable _ other

/-- The map written entry by entry (R104). -/
theorem same_writeEntries (entries : List (Nat × Nat)) (code : Nat) (other : k ≠ .gasMap) (b : Bank) :
    k.same b (writeEntries entries code b).1 := by
  induction entries generalizing code b with
  | nil => exact same_refl k b
  | cons e entries ih =>
    unfold writeEntries
    split
    · dsimp only
      split
      · exact same_refl k b
      · exact same_trans (same_gasMap _ other) (ih _ _)
    · exact same_refl k b

theorem same_followMap (written : List (GasCode × MapEntry)) (t : Tube) (b : Bank) :
    k.same b (b.followMap publish written t) := by
  refine same_of_unset fun b₀ h => ?_
  have K := kept_unset b₀
  have formed : Unset b₀ nowhere nowhere ((b.markUncovered t written).formEffective publish t) :=
    K.formEffective' (keeps_publish b₀) t (K.gas t _ rfl (fun c => by simp) h)
  exact kept_ite (fun _ => h) fun _ =>
    kept_ite (fun _ => K.requestGas (keeps_publish b₀) t _ _ formed) fun _ => formed

theorem same_setGasMap (p : List Byte) (other : k ≠ .gasMap) (b : Bank) : k.same b (b.setGasMap publish p).1 := by
  unfold Bank.setGasMap
  dsimp only
  split
  · exact same_refl k b
  · exact same_trans (same_writeEntries _ _ other b) (same_eachTube (same_followMap _) _)

theorem same_setSupplyLimit (p : List Byte) (other : k ≠ .supplyLimits) (b : Bank) :
    k.same b (b.setSupplyLimit p).1 := by
  unfold Bank.setSupplyLimit
  dsimp only
  split
  · exact same_refl k b
  · split
    · exact same_refl k b
    · split
      · exact same_refl k b
      · rw [answer_fst]
        split
        · exact same_trans (same_modSupply _ other) (same_modSupply _ other)
        · exact same_modSupply _ other

theorem same_setGateLimits (p : List Byte) (other : k ≠ .gateLimits) (b : Bank) : k.same b (b.setGateLimits p).1 := by
  unfold Bank.setGateLimits
  split
  · exact same_refl k b
  · exact same_gateLimits _ _ other

theorem same_judgeLimited (t : Tube) (b : Bank) : k.same b (b.judgeLimited t) := by
  unfold Bank.judgeLimited
  dsimp only
  split
  · exact same_refl k b
  · exact same_trans (same_modShare _) (same_link _ rfl)

theorem same_cutGrants (limit : Nat) (b : Bank) : k.same b (b.cutGrants limit) :=
  same_eachTube (fun _ _ => same_trans (same_modShare _) (same_modLoops _)) b

theorem same_setPowerLimit (p : List Byte) (other : k ≠ .powerLimit) (b : Bank) : k.same b (b.setPowerLimit p).1 := by
  have limited : k.same b { b with powerLimit := u16 p 0 } := same_powerLimit _ other
  unfold Bank.setPowerLimit
  dsimp only
  split
  · rw [answer_fst]
    exact same_trans limited (same_trans (same_cutGrants _ _) (same_eachTube same_judgeLimited _))
  · exact limited

/-- The group's level is formed, and the Hold Units of its tubes are told it (R166). -/
theorem same_formLevel (g : Group) (other : k ≠ .groups) (b : Bank) : k.same b (b.formLevel publish g) := by
  refine same_trans (same_modGroup g (fun x => { x with level := b.tableLevel g }) other) (same_of_unset fun b₀ h => ?_)
  have K := kept_unset b₀
  have reported := foldKept (groupTubes g) Bank.reportInterlock (fun _ _ h => K.report _ _ _ _ _ _ h) h
  refine kept_ite (fun _ => reported) fun _ => foldKept _ _ (fun _ t h => ?_) reported
  exact kept_ite (fun _ => K.clear t _ h) fun _ => K.raise (keeps_publish b₀) t _ _ nofun h

theorem same_setActionTable (p : List Byte) (table : k ≠ .actionTables) (group : k ≠ .groups) (b : Bank) :
    k.same b (b.setActionTable publish p).1 := by
  unfold Bank.setActionTable
  dsimp only
  split
  · exact same_refl k b
  · split
    · exact same_refl k b
    · rw [answer_fst]
      split
      · exact same_trans (same_tables _ table) (same_formLevel _ group _)
      · exact same_tables _ table

theorem same_setReportLevel (p : List Byte) (other : k ≠ .reportLevel) (b : Bank) : k.same b (b.setReportLevel p).1 := by
  unfold Bank.setReportLevel
  split
  · exact same_refl k b
  · exact same_reportLevel _ other

/-! ## The events that write a setting, and the expiry of the Zone Loops -/

theorem tube_tick (b : Bank) (t : Tube) : b.tick.tube t = (b.tube t).tick (b.clock + 1) := by
  simp [Bank.tick, Bank.tube]

theorem sameTube_tick (x : TubeState) (clock : BitVec 32) : sameTube k x (x.tick clock) := by
  have stands := sameTube_refl k x
  cases k with
  | _ => exact stands

/-- Of a tube, a tick advances the period and the sensor's time alone. -/
theorem same_tick (clock : k ≠ .clock) (groups : k ≠ .groups) (b : Bank) : k.same b b.tick := by
  have each : ∀ t, sameTube k (b.tube t) (b.tick.tube t) := fun t => tube_tick b t ▸ sameTube_tick _ _
  have stands := same_refl k b
  cases k with
  | clock => exact absurd rfl clock
  | groups => exact absurd rfl groups
  | zones | channels | rails | speedTables | sensors | records => exact each
  | _ => exact stands

theorem same_zoneLoopExpiry (t : Tube) (b : Bank) : k.same b (b.zoneLoopExpiry t) := by
  unfold Bank.zoneLoopExpiry
  split
  · exact same_refl k b
  · exact same_trans (same_modLoops _)
      (same_trans (same_modShare _) (same_trans (same_modLoops _) (same_judgeLimited t _)))

theorem same_reportConversion (c : TcChannel) (old new : ChannelRecord) (b : Bank) :
    k.same b (b.reportConversion c old new) := by
  unfold Bank.reportConversion
  dsimp only
  split
  · split
    · exact same_link _ rfl
    · exact same_refl k b
  · split
    · exact same_link _ rfl
    · exact same_refl k b

theorem same_tcConversion (input : Option Int) (other : k ≠ .readings) (b : Bank) :
    k.same b (b.tcConversion publish input) := by
  have converted (f : Scanner → Scanner) (c : TcChannel) (old new : ChannelRecord) :
      k.same b ((b.modScanner f).reportConversion c old new) :=
    same_trans (same_modScanner f other) (same_reportConversion c old new _)
  unfold Bank.tcConversion
  dsimp only
  split
  · exact converted _ _ _ _
  · exact same_trans (converted _ _ _ _) (same_of_unset fun b₀ h =>
      (kept_unset b₀).handControl (keeps_publish b₀) _ _ _ h)
  · exact same_trans (converted _ _ _ _) (same_of_unset fun b₀ h =>
      (kept_unset b₀).handOvertemp (keeps_publish b₀) _ _ _ h)

theorem same_takeInput (g : Group) (i : Input) (other : k ≠ .groups) (b : Bank) :
    k.same b (b.takeInput publish g i) := by
  unfold Bank.takeInput
  split
  · exact same_refl k b
  · exact same_trans (same_modGroup _ _ other) (same_formLevel _ other _)

theorem same_sensorPin (t : Tube) (closed : Bool) (other : k ≠ .sensors) (b : Bank) :
    k.same b (b.modBoat t fun x => x.sensorPin closed) := by
  have leaves : ∀ x : Boat, (x.sensorPin closed).rail = x.rail ∧ (x.sensorPin closed).table = x.table := fun x => by
    unfold Boat.sensorPin
    split <;> exact ⟨rfl, rfl⟩
  exact same_sensor (leaves _).1 (leaves _).2 other

theorem same_takeSensor (t : Tube) (other : k ≠ .sensors) (b : Bank) : k.same b (b.takeSensor publish t) := by
  unfold Bank.takeSensor
  split
  · exact same_refl k b
  · exact same_trans (same_sensor rfl rfl other)
      (same_of_unset fun b₀ h => (kept_unset b₀).judgeSeal (keeps_publish b₀) t h)

/-! ## Every command -/

/-- A setting that a command with two settings to write may not write is neither of them. -/
theorem ne_of_not_mayWrite {k₁ k₂ : Setting} (h : (decide (k = k₁) || decide (k = k₂)) = false) : k ≠ k₁ ∧ k ≠ k₂ := by
  simpa using h

/-- Every command answers a next state, in which a setting it may not write stands. -/
theorem exec_same (c : Instr) (s : State) (h : c.mayWrite k = false) :
    ∃ b, exec c s = .next { s with bank := b } ∧ k.same s.bank b := by
  cases c with
  | powerUp => exact nomatch h
  | restartBank tag p => exact nomatch h
  | characterTaken c => exact nomatch h
  | bankTick =>
    obtain ⟨clock, groups⟩ := ne_of_not_mayWrite h
    exact ⟨_, rfl, same_tick clock groups _⟩
  | loadSteps tag p => exact ⟨_, rfl, same_takeTubeRequest (same_loadSteps p (of_decide_eq_false h)) _⟩
  | clearSteps tag p => exact ⟨_, rfl, same_takeTubeRequest (same_clearSteps p (of_decide_eq_false h)) _⟩
  | configureZones tag p => exact ⟨_, rfl, same_takeTubeRequest (same_configureZones p (of_decide_eq_false h)) _⟩
  | configureChannels tag p =>
    exact ⟨_, rfl, same_takeTubeRequest (same_configureChannels p (of_decide_eq_false h)) _⟩
  | configureRail tag p => exact ⟨_, rfl, same_takeTubeRequest (same_configureRail p (of_decide_eq_false h)) _⟩
  | setSpeedTable tag p => exact ⟨_, rfl, same_takeTubeRequest (same_setSpeedTable p (of_decide_eq_false h)) _⟩
  | setGasMap tag p => exact ⟨_, rfl, same_takeBankRequest (same_setGasMap p (of_decide_eq_false h)) _⟩
  | setSupplyLimit tag p => exact ⟨_, rfl, same_takeBankRequest (same_setSupplyLimit p (of_decide_eq_false h)) _⟩
  | setGateLimits tag p => exact ⟨_, rfl, same_takeBankRequest (same_setGateLimits p (of_decide_eq_false h)) _⟩
  | setPowerLimit tag p => exact ⟨_, rfl, same_takeBankRequest (same_setPowerLimit p (of_decide_eq_false h)) _⟩
  | setReportLevel tag p => exact ⟨_, rfl, same_takeBankRequest (same_setReportLevel p (of_decide_eq_false h)) _⟩
  | setActionTable tag p =>
    obtain ⟨table, group⟩ := ne_of_not_mayWrite h
    exact ⟨_, rfl, same_takeBankRequest (same_setActionTable p table group) _⟩
  | tcConversion input => exact ⟨_, rfl, same_event (same_tcConversion input (of_decide_eq_false h) _)⟩
  | interlockInputChange g i closed => exact ⟨_, rfl, same_modGroup g _ (of_decide_eq_false h)⟩
  | interlockInputTaken g i => exact ⟨_, rfl, same_event (same_takeInput g i (of_decide_eq_false h) _)⟩
  | sealSensorChange t closed => exact ⟨_, rfl, same_sensorPin t closed (of_decide_eq_false h) _⟩
  | sealSensorTaken t => exact ⟨_, rfl, same_event (same_takeSensor t (of_decide_eq_false h) _)⟩
  | startRun tag p =>
    exact ⟨_, rfl, same_takeTubeRequest (fun t _ => same_of_unset fun b₀ h =>
      (kept_unset b₀).startRun (keeps_publish b₀) t p h) _⟩
  | abortRun tag p =>
    exact ⟨_, rfl, same_takeTubeRequest (fun t _ => same_of_unset fun b₀ h =>
      (kept_unset b₀).abortRun (keeps_publish b₀) t p h) _⟩
  | resetTube tag p =>
    exact ⟨_, rfl, same_takeTubeRequest (fun t _ => same_of_unset fun b₀ h =>
      (kept_unset b₀).resetTube (keeps_publish b₀) t p h) _⟩
  | hold tag p =>
    exact ⟨_, rfl, same_takeTubeRequest (fun t _ => same_of_unset fun b₀ h =>
      (kept_unset b₀).holdRequest (keeps_publish b₀) t p h) _⟩
  | release tag p =>
    exact ⟨_, rfl, same_takeTubeRequest (fun t _ => same_of_unset fun b₀ h =>
      (kept_unset b₀).releaseRequest (keeps_publish b₀) t p h) _⟩
  | setIdleTemperature tag p =>
    exact ⟨_, rfl, same_takeTubeRequest (fun t _ => same_of_unset fun b₀ h =>
      (kept_unset b₀).setIdleTemperature t p h) _⟩
  | locateBoat tag p =>
    exact ⟨_, rfl, same_takeTubeRequest (fun t _ => same_of_unset fun b₀ h =>
      (moves_unset b₀).locateBoat (keeps_publish b₀) t p h) _⟩
  | moveBoat tag p =>
    exact ⟨_, rfl, same_takeTubeRequest (fun t _ => same_of_unset fun b₀ h =>
      (moves_unset b₀).moveBoat (keeps_publish b₀) t p nofun h) _⟩
  | clearMotionFault tag p =>
    exact ⟨_, rfl, same_takeTubeRequest (fun t _ => same_of_unset fun b₀ h =>
      (moves_unset b₀).clearMotionFault (keeps_publish b₀) t p h) _⟩
  | readSteps tag p =>
    exact ⟨_, rfl, same_takeTubeRequest (fun t b => (Bank.readSteps_fst t p).symm ▸ same_refl k b) _⟩
  | readTube tag p =>
    exact ⟨_, rfl, same_takeTubeRequest (fun t b => (Bank.readTube_fst t p).symm ▸ same_refl k b) _⟩
  | readReadings tag p => exact ⟨_, rfl, same_takeBankRequest (same_refl k) _⟩
  | readBank tag p => exact ⟨_, rfl, same_takeBankRequest (same_refl k) _⟩
  | readInterlocks tag p => exact ⟨_, rfl, same_takeBankRequest (same_refl k) _⟩
  | unknownKind kind tag p => exact ⟨_, rfl, same_takeUnknown kind tag _⟩
  | crcError => exact ⟨_, rfl, same_crcMismatch⟩
  | invalidFrameLength n =>
    refine ⟨_, rfl, ?_⟩
    split
    · exact same_receive _
    · exact same_refl k _
  | receiveGap => exact ⟨_, rfl, same_receive _⟩
  | framingError => exact ⟨_, rfl, same_receive _⟩
  | transmitComplete => exact ⟨_, rfl, same_transmitComplete⟩
  | runEngineExpiry t =>
    exact ⟨_, rfl, same_event (same_of_unset fun b₀ h => (kept_unset b₀).runEngineExpiry (keeps_publish b₀) t h)⟩
  | rampExpiry t =>
    exact ⟨_, rfl, same_event (same_of_unset fun b₀ h => (kept_unset b₀).rampExpiry (keeps_publish b₀) t h)⟩
  | zoneLoopExpiry t => exact ⟨_, rfl, same_event (same_zoneLoopExpiry t _)⟩
  | gasSample t returns =>
    exact ⟨_, rfl, same_event (same_of_unset fun b₀ h => (kept_unset b₀).gasSample (keeps_publish b₀) t returns h)⟩
  | paddleStep t =>
    exact ⟨_, rfl, same_event (same_of_unset fun b₀ h =>
      (moves_unset b₀).paddleStep (keeps_publish b₀) (fun R t p => (kept_placed R t p).publish) t nofun h)⟩
  | markRead t mark =>
    exact ⟨_, rfl, same_event (same_of_unset fun b₀ h => (moves_unset b₀).markRead (keeps_publish b₀) t mark nofun h)⟩

/-- Settles O54: the one state a command answers is the one whose settings stand. -/
theorem settingsStand : Obligations.SettingsStand := by
  intro c k s s' unwritten answered
  obtain ⟨b, answers, stands⟩ := exec_same c s unwritten
  cases answers.symm.trans answered
  exact stands

end Sys2Proof.Proofs.Settings
end
